-- ==== Sys2Proof/Word.lean ====
section
/-! DEFINITION. The fixed widths of the block: bytes, command and event words, pixel counts and the Fill Cursor.
Values of CNT_W bits (the period and the compare values) are naturals, because CNT_W is an open parameter
(00_scope.md R9, R10; assumption log 7). -/

namespace Sys2Proof

/-- One Pixel Buffer byte, one channel value, one brightness, one handle identity, one bus selector
(30_encoding.md R99). -/
abbrev Byte := BitVec 8

/-- A pixel index or a pixel count: IDX_W = 16 bits (00_scope.md R9, D8). -/
abbrev Count := BitVec 16

/-- The Fill Cursor: CUR_W = 17 bits (10_state.md R28, D8). -/
abbrev Cursor := BitVec 17

/-- A command word (30_encoding.md R90). -/
abbrev CommandWord := BitVec 64

/-- An event word (30_encoding.md R98). -/
abbrev EventWord := BitVec 16

end Sys2Proof
end

