-- ==== Sys2Proof/Config.lean ====
section
/-! DEFINITION. What an implementation fixes (the OPEN parameters of 00_scope.md R9), what the environment may
answer, and the free values: constants with no body, so that no proof can rest on what they are. -/

namespace Sys2Proof

/-- The OPEN parameters of 00_scope.md R9 that are fixed for one machine. They stand in the machine's state as plain
data, so a statement about every state is a statement about every choice of them (assumption log 5). -/
structure Params where
  /-- CNT_W, the width of the timer counter (D2); CMP_W is the same number (D3). -/
  cntW : Nat
  /-- N_MAX, the largest accepted pixel count (D7). -/
  nMax : Count
  /-- BR_RESET, the brightness after a successful INIT (D9). -/
  brReset : Byte
  /-- BREAK_CAPABLE, whether the shutdown emits the main-output disable (D26). -/
  breakCapable : Bool
deriving DecidableEq, Repr

/-- The outcome of one attempt to start the cyclic transfer (00_scope.md R9, D27). -/
inductive StartResult where
  | ok    -- S_OK
  | busy  -- S_BUSY
  | err   -- S_ERR
deriving DecidableEq, Repr, Inhabited

/-- One move of one agent of 00_scope.md R15. Which agent moves next is the environment's choice (R13;
assumption log 2). -/
inductive Turn where
  /-- The host presents a command word on the command port (30_encoding.md R90). -/
  | command (w : CommandWord)
  /-- The host's thread goes on with a SHOW held in its start loop (43_streaming_engine.md R179). -/
  | retry
  /-- Something on the interrupt path posts an event word (10_state.md R40). -/
  | post (e : EventWord)
  /-- The handler agent takes the oldest posted event and runs its handler to the end (43_streaming_engine.md R187); or,
  where a refill is in progress, makes its next slot write (assumption log 10). -/
  | handle
  /-- The handler agent takes the oldest posted event; a refill that its handler makes is left to be made slot by slot
  (20_memory.md R68, 93_implementation_defined.md U2; assumption log 10). -/
  | beginHandler
  /-- The transfer engine makes one DRAIN step (43_streaming_engine.md R196). -/
  | drain
  /-- The peripheral clock behind one bus selector changes (70_reset_and_hazards.md R284). -/
  | clock (sel : Byte) (f : Option Nat)
deriving DecidableEq, Repr, Inhabited

/-- Free value: whose turn it is at step `k` where the state queues none (assumption log 2). -/
opaque Config.freeTurn : Nat → Turn

/-- Free value: what ChReady answers at step `k` where the state queues no answer (D27; assumption log 3). -/
opaque Config.freeChReady : Nat → Bool

/-- Free value: what a start attempt answers at step `k` where the state queues no answer (D27; assumption log 3). -/
opaque Config.freeStartResult : Nat → StartResult

/-- Free value: what ClkFreq answers for a selector the state lists no answer for (D29; assumption log 4). -/
opaque Config.freeClkFreq : Byte → Option Nat

/-- Free value: the Pixel Buffer byte at an offset that nothing has written since INIT number `epoch`
(93_implementation_defined.md U9; assumption log 6). -/
opaque Config.freePixelByte : (epoch : Nat) → (offset : Nat) → Byte

/-- Free value: the Transfer Buffer slot that nothing has written since INIT number `epoch`, before it is cut to
CMP_W bits (93_implementation_defined.md U10; assumption log 6). -/
opaque Config.freeSlot : (epoch : Nat) → (slot : Nat) → Nat

/-- Free value: which of the values a Pixel Buffer byte has held during the running show a handler's read at step `k`
of offset `a` finds (93_implementation_defined.md U1; assumption log 9). -/
opaque Config.freeRace : (k : Nat) → (a : Nat) → Nat

/-- Free value: what the engine hands to the timer at step `k` after an accepted error notification, before it is cut
to CMP_W bits (93_implementation_defined.md U7; assumption log 11). -/
opaque Config.freeAfterErr : (k : Nat) → Nat

end Sys2Proof
end

