-- ==== Sys2Proof/Syntax.lean ====
section
/-! DEFINITION. The nine operations of the block (00_scope.md R2; 30_encoding.md R92, R98): one constructor for each row
of spec/opcode_table.json, and the words that carry them on the two ports (R90). -/

namespace Sys2Proof

/-- One operation with its operands (30_encoding.md R93 to R99). Every operand has the width its field has, so an
operand outside its range cannot be written. -/
inductive Instr where
  /-- INIT: bus selector, handle identity to bind, gamma flag, pixel count (R93). -/
  | init (sel hid : Byte) (gam : Bool) (n : Count)
  /-- SETPIX: pixel index, red, green, blue (R94). -/
  | setpix (idx : Count) (r g b : Byte)
  /-- FILL: red, green, blue (R95). -/
  | fill (r g b : Byte)
  /-- SETBR: the new brightness (R96). -/
  | setbr (v : Byte)
  /-- SHOW (R97). -/
  | showStrip
  /-- STATE (R97). -/
  | queryState
  /-- HT, the half-complete notification: the firing handle's identity (R98). -/
  | ht (hid : Byte)
  /-- TC, the complete notification (R98). -/
  | tc (hid : Byte)
  /-- ERR, the error notification (R98). -/
  | err (hid : Byte)
deriving DecidableEq, Repr

/-- A word on one of the two input ports; the port gives the word's length (30_encoding.md R90, R103). -/
inductive PortWord where
  | command (w : CommandWord)
  | event (e : EventWord)
deriving DecidableEq, Repr

/-- Whether an operation arrives on the event port (30_encoding.md R90). -/
def Instr.isEvent : Instr → Bool
  | .init _ _ _ _ => false
  | .setpix _ _ _ _ => false
  | .fill _ _ _ => false
  | .setbr _ => false
  | .showStrip => false
  | .queryState => false
  | .ht _ => true
  | .tc _ => true
  | .err _ => true

end Sys2Proof
end

