-- ==== Sys2Proof/WellFormed.lean ====
section
/-! DEFINITION. Which port words are legal, by the mask and match columns of 30_encoding.md R106 (the same numbers as
spec/opcode_table.json). The decoder of Decode.lean is written from the field layout of R91 and R98 instead, so that
the two descriptions can be proved to accept the same words. An `Instr` carries each operand at its field's width,
hence every `Instr` is well-formed; the check on it says that the word it encodes to is legal (Decode.lean,
`Instr.wellFormed`). -/

namespace Sys2Proof

/-- One row of the opcode table: a word belongs to the row if its masked bits equal the match. -/
structure EncodingRow (w : Nat) where
  mask : BitVec w
  pattern : BitVec w
deriving DecidableEq, Repr

/-- Whether a word belongs to a row (30_encoding.md R106). -/
def EncodingRow.accepts {w : Nat} (row : EncodingRow w) (x : BitVec w) : Bool :=
  x &&& row.mask == row.pattern

/-- The six command rows of 30_encoding.md R106, in the order INIT, SETPIX, FILL, SETBR, SHOW, STATE. -/
def commandRows : List (EncodingRow 64) :=
  [⟨0xFF0000FE0000FFFF, 0x0100000000000000⟩,
   ⟨0xFFFF0000FF000000, 0x0200000000000000⟩,
   ⟨0xFFFFFFFFFF000000, 0x0300000000000000⟩,
   ⟨0xFFFFFFFFFFFFFF00, 0x0400000000000000⟩,
   ⟨0xFFFFFFFFFFFFFFFF, 0x0500000000000000⟩,
   ⟨0xFFFFFFFFFFFFFFFF, 0x0600000000000000⟩]

/-- The three event rows of 30_encoding.md R106, in the order HT, TC, ERR. -/
def eventRows : List (EncodingRow 16) :=
  [⟨0xFF00, 0x0100⟩, ⟨0xFF00, 0x0200⟩, ⟨0xFF00, 0x0300⟩]

/-- A port word is well-formed if some row of its port's table accepts it; every other command word is illegal
(30_encoding.md R101) and every other event word is of unknown kind (R102). -/
def PortWord.wellFormed : PortWord → Bool
  | .command w => commandRows.any fun row => row.accepts w
  | .event e => eventRows.any fun row => row.accepts e

end Sys2Proof
end

