-- ==== Sys2Proof/Decode.lean ====
section
/-! DEFINITION. The decoders of the two ports, total on every word and rejecting by name, the encoder, and the textual
form (30_encoding.md R91, R92, R98, R101 to R106). -/

namespace Sys2Proof

/-- Why a port word carries no operation. -/
inductive Reject where
  /-- The `op` field is none of 0x01 to 0x06 (30_encoding.md R101). -/
  | illegalOpcode (op : Byte)
  /-- A reserved bit of the word's format is 1 (30_encoding.md R101). -/
  | reservedBits
  /-- The `kind` field is none of 0x01 to 0x03 (30_encoding.md R102). -/
  | unknownKind (kind : Byte)
deriving DecidableEq, Repr

/-- The field of `len` bits whose least significant bit is bit `lo` (00_scope.md R11). -/
def bits {w : Nat} (x : BitVec w) (lo len : Nat) : BitVec len := x.extractLsb' lo len

/-- Keep a decoded operation only if the reserved bits of its format are zero (30_encoding.md R101). -/
def ifReserved (zero : Bool) (i : Instr) : Except Reject Instr :=
  if zero then .ok i else .error .reservedBits

/-- Format CI: reserved [39:33] and [15:0] (30_encoding.md R91). -/
def decodeInit (w : CommandWord) : Except Reject Instr :=
  ifReserved (bits w 33 7 == 0 && bits w 0 16 == 0)
    (.init (bits w 48 8) (bits w 40 8) (w.getLsbD 32) (bits w 16 16))

/-- Format CP: reserved [55:48] and [31:24] (30_encoding.md R91). -/
def decodeSetpix (w : CommandWord) : Except Reject Instr :=
  ifReserved (bits w 48 8 == 0 && bits w 24 8 == 0)
    (.setpix (bits w 32 16) (bits w 16 8) (bits w 8 8) (bits w 0 8))

/-- Format CF: reserved [55:24] (30_encoding.md R91). -/
def decodeFill (w : CommandWord) : Except Reject Instr :=
  ifReserved (bits w 24 32 == 0) (.fill (bits w 16 8) (bits w 8 8) (bits w 0 8))

/-- Format CB: reserved [55:8] (30_encoding.md R91). -/
def decodeSetbr (w : CommandWord) : Except Reject Instr :=
  ifReserved (bits w 8 48 == 0) (.setbr (bits w 0 8))

/-- Format CN: reserved [55:0] (30_encoding.md R91, R97). -/
def decodeBare (i : Instr) (w : CommandWord) : Except Reject Instr :=
  ifReserved (bits w 0 56 == 0) i

/-- The decoder of the command port (30_encoding.md R92, R106). -/
def decodeCommand (w : CommandWord) : Except Reject Instr :=
  if bits w 56 8 = 0x01#8 then decodeInit w
  else if bits w 56 8 = 0x02#8 then decodeSetpix w
  else if bits w 56 8 = 0x03#8 then decodeFill w
  else if bits w 56 8 = 0x04#8 then decodeSetbr w
  else if bits w 56 8 = 0x05#8 then decodeBare .showStrip w
  else if bits w 56 8 = 0x06#8 then decodeBare .queryState w
  else .error (.illegalOpcode (bits w 56 8))

/-- The decoder of the event port (30_encoding.md R98, R106). -/
def decodeEvent (e : EventWord) : Except Reject Instr :=
  if bits e 8 8 = 0x01#8 then .ok (.ht (bits e 0 8))
  else if bits e 8 8 = 0x02#8 then .ok (.tc (bits e 0 8))
  else if bits e 8 8 = 0x03#8 then .ok (.err (bits e 0 8))
  else .error (.unknownKind (bits e 8 8))

/-- The decoder of both ports. -/
def decode : PortWord → Except Reject Instr
  | .command w => decodeCommand w
  | .event e => decodeEvent e

/-- A field's contribution to a word: its value with its least significant bit at bit `lo` (00_scope.md R11). -/
def place {w : Nat} (lo : Nat) (x : BitVec w) : Nat := x.toNat * 2 ^ lo

/-- The event word of a kind and a handle identity, `kind ‖ hid` (30_encoding.md R98). -/
def eventWord (kind hid : Byte) : EventWord := BitVec.ofNat 16 (place 8 kind + place 0 hid)

/-- The word of an operation: its opcode or kind and its fields where 30_encoding.md R91 and R98 put them, every
reserved bit 0. -/
def encode : Instr → PortWord
  | .init sel hid gam n =>
      .command (BitVec.ofNat 64
        (place 56 0x01#8 + place 48 sel + place 40 hid + place 32 (BitVec.ofBool gam) + place 16 n))
  | .setpix idx r g b =>
      .command (BitVec.ofNat 64 (place 56 0x02#8 + place 32 idx + place 16 r + place 8 g + place 0 b))
  | .fill r g b => .command (BitVec.ofNat 64 (place 56 0x03#8 + place 16 r + place 8 g + place 0 b))
  | .setbr v => .command (BitVec.ofNat 64 (place 56 0x04#8 + place 0 v))
  | .showStrip => .command (BitVec.ofNat 64 (place 56 0x05#8))
  | .queryState => .command (BitVec.ofNat 64 (place 56 0x06#8))
  | .ht hid => .event (eventWord 0x01 hid)
  | .tc hid => .event (eventWord 0x02 hid)
  | .err hid => .event (eventWord 0x03 hid)

/-- An operation is well-formed if its word is legal (30_encoding.md R101, R106). -/
def Instr.wellFormed (i : Instr) : Bool := (encode i).wellFormed

/-- The decoder on a word numbered as spec/opcode_table.json numbers it: the table gives an event 16 bits and a command
64, and the length says which port the word is on (30_encoding.md R103; assumption log 19). -/
def decodeTableWord (nbits w : Nat) : Option Instr :=
  if nbits ≤ 16 then (decodeEvent (BitVec.ofNat 16 w)).toOption
  else (decodeCommand (BitVec.ofNat 64 w)).toOption

/-- A decimal operand of the textual form. -/
def decimal {w : Nat} (x : BitVec w) : String := toString x.toNat

/-- The textual form of an operation, operands in decimal (30_encoding.md R104). -/
def Instr.text : Instr → String
  | .init sel hid gam n =>
      "INIT " ++ decimal sel ++ ", " ++ decimal hid ++ ", " ++ decimal (BitVec.ofBool gam) ++ ", " ++ decimal n
  | .setpix idx r g b =>
      "SETPIX " ++ decimal idx ++ ", " ++ decimal r ++ ", " ++ decimal g ++ ", " ++ decimal b
  | .fill r g b => "FILL " ++ decimal r ++ ", " ++ decimal g ++ ", " ++ decimal b
  | .setbr v => "SETBR " ++ decimal v
  | .showStrip => "SHOW"
  | .queryState => "STATE"
  | .ht hid => "ev HT " ++ decimal hid
  | .tc hid => "ev TC " ++ decimal hid
  | .err hid => "ev ERR " ++ decimal hid

end Sys2Proof
end

