-- ==== Sys2Proof/Machine/State.lean ====
section
/-! DEFINITION. The state of one Strip, of its transfer engine and of the inputs its environment has queued
(10_state.md), all of it plain data, and the state at power-on (R44). -/

namespace Sys2Proof.Machine

/-- The Strip State Machine's two states (10_state.md R26). -/
inductive StripState where
  | ready
  | busy
deriving DecidableEq, Repr

/-- The status codes of the command port (30_encoding.md R100). -/
inductive Status where
  | ok
  | ready
  | busy
  | paramErr
  | hwErr
deriving DecidableEq, Repr

/-- The actions the block asks of its collaborators (10_state.md R41). -/
inductive Action where
  | setPeriod (p : Nat)   -- A_SET_PERIOD(P)
  | update                -- A_UPDATE
  | armNotify             -- A_ARM_NOTIFY
  | start                 -- A_START
  | outEnable             -- A_OUT_EN
  | counterEnable         -- A_CNT_EN
  | dmaRequestDisable     -- A_DMAREQ_DIS
  | abort                 -- A_ABORT
  | mainOutputDisable     -- A_MOE_DIS
  | counterDisable        -- A_CNT_DIS
deriving DecidableEq, Repr

/-- Reasons the machine stops with a fault. -/
inductive Fault where
  /-- Raised by SETPIX and SHOW on a Strip with `n = 0`, which 10_state.md R21 says is never held: the index modulo 0
  and pixel 0 do not exist. Safe: no state that a run reaches after INIT has it (assumption log 13). -/
  | emptyStrip
deriving DecidableEq, Repr

/-- Reasons an instruction has no meaning. -/
inductive Refusal where
  /-- Raised by `exec` for an instruction with no meaning yet. Safe. No arm raises it now. -/
  | notModelled (mnemonic : String)
  /-- Raised by every command but INIT while `inited = 0` (10_state.md R32, 93_implementation_defined.md U3). Safe. -/
  | notInitialised
  /-- Raised by every command but INIT while `flt = 1` (10_state.md R33, 93_implementation_defined.md U4). Safe. -/
  | needsReinit
  /-- Raised by INIT while a show is in flight (40_timing_calculator.md R120, 93_implementation_defined.md U5). Safe. -/
  | initDuringShow
deriving DecidableEq, Repr

/-- A memory: the listed addresses and what has been written there, addresses strictly rising. An address that is not
listed has not been written; what it then reads as is a free value of the memory's reader (Ops.lean). -/
abbrev Memory (α : Type) := List (Nat × α)

/-- What is left of a handler's refill of one half of the Transfer Buffer (42_bit_encoder.md R162, R163;
43_streaming_engine.md R183, R184). -/
structure Refill where
  /-- The next slot to write. -/
  slot : Nat
  /-- The compare values still to be written, in ascending slot order. -/
  values : List Nat
  /-- Whether the handler then advances the Fill Cursor. -/
  advances : Bool
deriving DecidableEq, Repr

/-- The machine. -/
@[ext]
structure State where
  /-- The pixel count (10_state.md R21). -/
  n : Count
  /-- The brightness (R22). -/
  br : Byte
  /-- The gamma-enabled flag (R27). -/
  gam : Bool
  /-- The timer period (R23). -/
  per : Nat
  /-- The duty threshold of a logical 1 (R24). -/
  hi : Nat
  /-- The duty threshold of a logical 0 (R25). -/
  lo : Nat
  /-- The Strip State Machine's state (R26). -/
  st : StripState
  /-- The Fill Cursor (R28). -/
  cur : Cursor
  /-- The bound handle identity (R31). -/
  hid : Byte
  /-- 1 after a successful INIT (R32). -/
  inited : Bool
  /-- The sticky hardware-fault mark (R33). -/
  flt : Bool
  /-- The Pixel Buffer (R35). -/
  pb : Memory Byte
  /-- The Transfer Buffer (R36). -/
  tb : Memory Nat
  /-- The transfer engine's read pointer (R38). -/
  rd : Fin 48
  /-- Transfer active (R39). -/
  act : Bool
  /-- Posted and not yet handled events, oldest first (R40). -/
  pend : List EventWord
  /-- The trace of collaborator actions, oldest first (R41). -/
  hal : List Action
  /-- The stream of compare values handed to the timer, oldest first (R42). -/
  tx : List Nat
  /-- The status codes answered on the command port, oldest first (00_scope.md R16). -/
  resp : List Status
  /-- The implementation's parameters (00_scope.md R9). -/
  cfg : Params
  /-- What ClkFreq answers, by selector; a selector that is not listed answers a free value (R43). -/
  clk : List (Byte × Option Nat)
  /-- Queued answers of ChReady (R43). -/
  readyIn : List Bool
  /-- Queued answers of StartResult (R43). -/
  startIn : List StartResult
  /-- Queued moves of the agents (00_scope.md R13, R15). -/
  turns : List Turn
  /-- The model's own: a SHOW is inside its start loop (43_streaming_engine.md R179; assumption log 8). -/
  held : Bool
  /-- The model's own: the refill of a handler that is between two of its slot writes (20_memory.md R68,
  93_implementation_defined.md U2; assumption log 10). -/
  refill : Option Refill
  /-- The model's own: what Pixel Buffer bytes overwritten during the running show held before, by offset
  (93_implementation_defined.md U1; assumption log 9). -/
  old : List (Nat × Byte)
  /-- The model's own: which unspecified memory contents are current (assumption log 6). -/
  epoch : Nat
  /-- The model's own: the number of steps made, with which every free value of a step is keyed (assumption log 21). -/
  draws : Nat
deriving DecidableEq, Repr

/-- Power-on (10_state.md R44; 70_reset_and_hazards.md R270). `inited`, `flt`, `act`, `pend`, `hal` and `tx` are as R44
says; the registers R44 leaves unspecified are 0 (DESIGN CHOICE, assumption log 1); the parameters have the spec's
defaults (DESIGN CHOICE, assumption log 5). -/
def State.reset : State where
  n := 0#16
  br := 0#8
  gam := false
  per := 0
  hi := 0
  lo := 0
  st := .ready
  cur := 0#17
  hid := 0#8
  inited := false
  flt := false
  pb := []
  tb := []
  rd := 0
  act := false
  pend := []
  hal := []
  tx := []
  resp := []
  cfg := { cntW := 16, nMax := 65535, brReset := 255, breakCapable := false }
  clk := []
  readyIn := []
  startIn := []
  turns := []
  held := false
  refill := none
  old := []
  epoch := 0
  draws := 0

end Sys2Proof.Machine
end

