-- ==== Sys2Proof/Machine/Ops.lean ====
section
/-! DEFINITION. The named operations over memories, registers, traces and inputs that the meanings share, the numbers
of the status codes, and taking an event (the block's only exception-like entry, 60_exceptions.md R237). -/

namespace Sys2Proof.Machine

/-! ### Memories -/

/-- What has been written at address `a`, if anything has. -/
def Memory.read {α : Type} : Memory α → Nat → Option α
  | [], _ => none
  | (b, v) :: m, a => if b = a then some v else Memory.read m a

/-- Store at address `a`, keeping the addresses strictly rising. -/
def Memory.write {α : Type} : Memory α → Nat → α → Memory α
  | [], a, v => [(a, v)]
  | (b, w) :: m, a, v =>
    if a < b then (a, v) :: (b, w) :: m
    else if a = b then (a, v) :: m
    else (b, w) :: Memory.write m a v

/-- Store consecutive addresses in ascending order. -/
def Memory.writeFrom {α : Type} (m : Memory α) (a : Nat) : List α → Memory α
  | [] => m
  | v :: vs => Memory.writeFrom (Memory.write m a v) (a + 1) vs

/-- The canonical form: addresses strictly rising. (An unlisted address has not been written, so no entry can equal
what an unlisted address holds.) -/
abbrev Memory.wf {α : Type} (m : Memory α) : Prop := (m.map Prod.fst).Pairwise (· < ·)

/-- Read one Pixel Buffer byte; a byte that nothing has written since INIT is a free value, fixed until the next
INIT (20_memory.md R62, 93_implementation_defined.md U9; assumption log 6). -/
def State.pbRead (s : State) (a : Nat) : Byte :=
  (Memory.read s.pb a).getD (Config.freePixelByte s.epoch a)

/-- Store one Pixel Buffer byte (20_memory.md R62). While a show is running the byte's earlier value is kept in `old`,
because a handler's later read of it is a race (93_implementation_defined.md U1; assumption log 9). -/
def State.pbWrite (s : State) (a : Nat) (v : Byte) : State :=
  { s with
    pb := Memory.write s.pb a v
    old := if s.st = .busy then (a, s.pbRead a) :: s.old else s.old }

/-- The values the Pixel Buffer byte at `a` held earlier in the running show, newest first. -/
def State.overwritten (s : State) (a : Nat) : List Byte :=
  (s.old.filter fun p => p.1 == a).map Prod.snd

/-- A handler's read of one Pixel Buffer byte: the byte, or, where the caller has written it during this show, any one
of the values it has held during the show (41_pixel_buffer.md R147, 93_implementation_defined.md U1; assumption
log 9). -/
def State.pbReadRacing (s : State) (a : Nat) : Byte :=
  match s.overwritten a with
  | [] => s.pbRead a
  | v :: vs => (s.pbRead a :: v :: vs).getD (Config.freeRace s.draws a % (vs.length + 2)) (s.pbRead a)

/-- Read one Transfer Buffer slot; a slot that nothing has written since INIT is a free value of CMP_W bits
(20_memory.md R64, 93_implementation_defined.md U10; assumption log 6). -/
def State.tbRead (s : State) (i : Nat) : Nat :=
  (Memory.read s.tb i).getD (Config.freeSlot s.epoch i % 2 ^ s.cfg.cntW)

/-- Store consecutive Transfer Buffer slots in ascending order (20_memory.md R64, 42_bit_encoder.md R162). -/
def State.tbWriteFrom (s : State) (i : Nat) (vs : List Nat) : State :=
  { s with tb := Memory.writeFrom s.tb i vs }

/-- Give both memories new unspecified contents (40_timing_calculator.md R120 step 6; D28). -/
def State.forgetMemories (s : State) : State :=
  { s with pb := [], tb := [], old := [], epoch := s.epoch + 1 }

/-! ### Answers and traces -/

/-- The status code numbers (30_encoding.md R100, D14). -/
def Status.code : Status → BitVec 8
  | .ok => 0x00
  | .ready => 0x01
  | .busy => 0x02
  | .paramErr => 0x03
  | .hwErr => 0x04

/-- The bit that register `st` holds (10_state.md R26, D14). -/
def StripState.bit : StripState → BitVec 1
  | .ready => 0
  | .busy => 1

/-- End a command with a status code: `return S` and `raise E` of 00_scope.md R12. -/
def State.answer (s : State) (c : Status) : State := { s with resp := s.resp ++ [c] }

/-- Emit collaborator actions in order (10_state.md R41). -/
def State.emit (s : State) (as : List Action) : State := { s with hal := s.hal ++ as }

/-! ### Environment inputs -/

/-- What ChReady answers now (10_state.md R43, D27; assumption log 3). -/
def State.chReady (s : State) : Bool :=
  match s.readyIn with
  | b :: _ => b
  | [] => Config.freeChReady s.draws

/-- The state once ChReady has been drawn. -/
def State.drawChReady (s : State) : State := { s with readyIn := s.readyIn.tail }

/-- What the next start attempt answers (10_state.md R43, D27; assumption log 3). -/
def State.startResult (s : State) : StartResult :=
  match s.startIn with
  | r :: _ => r
  | [] => Config.freeStartResult s.draws

/-- The state once StartResult has been drawn. -/
def State.drawStartResult (s : State) : State := { s with startIn := s.startIn.tail }

/-- What ClkFreq answers for a bus selector (10_state.md R43, D29; assumption log 4). -/
def State.clkFreq (s : State) (sel : Byte) : Option Nat :=
  match s.clk.find? (fun p => p.1 == sel) with
  | some p => p.2
  | none => Config.freeClkFreq sel

/-- The peripheral clock behind a selector changes; nothing else does (70_reset_and_hazards.md R284,
93_implementation_defined.md U13). -/
def State.setClock (s : State) (sel : Byte) (f : Option Nat) : State :=
  { s with clk := (sel, f) :: s.clk.filter (fun p => p.1 != sel) }

/-! ### The event queue -/

/-- Post an event word (10_state.md R40). -/
def State.post (s : State) (e : EventWord) : State := { s with pend := s.pend ++ [e] }

/-- Entry to a handler: the event leaves the queue, which also clears it, and nothing else is saved or changed
(60_exceptions.md R233, R237). A handler returns by ending and restores nothing (R238), so there is no
operation for the return. -/
def State.takeEvent (s : State) : State := { s with pend := s.pend.tail }

/-! ### The agents' moves -/

/-- Whose turn it is: the oldest queued move, or a free value (00_scope.md R13; assumption log 2). -/
def State.nextTurn (s : State) : Turn :=
  match s.turns with
  | t :: _ => t
  | [] => Config.freeTurn s.draws

/-- Count a step, so that its free values are fresh (assumption log 21). -/
def State.tick (s : State) : State := { s with draws := s.draws + 1 }

/-- Count a step and take the move it makes out of the queue. -/
def State.popTurn (s : State) : State := { s with turns := s.turns.tail, draws := s.draws + 1 }

end Sys2Proof.Machine
end

