-- ==== Sys2Proof/Machine/Flags.lean ====
section
/-! DEFINITION. The tests on the flag-like state (10_state.md R34): the refusal tests of the commands (R32, R33) and the
guards of the handlers (43_streaming_engine.md R182). No operation computes a flag from arithmetic. -/

namespace Sys2Proof.Machine

/-- The requirement `inited = 1`, `flt = 0` of every command but INIT (10_state.md R32, R33;
93_implementation_defined.md U3, U4). -/
def State.whenUsable (s : State) (run : Host.Outcome State Fault Refusal) : Host.Outcome State Fault Refusal :=
  if s.inited = false then .refused .notInitialised
  else if s.flt = true then .refused .needsReinit
  else run

/-- The requirement `n ≠ 0` of the commands that name a pixel, which every initialised Strip meets
(10_state.md R21; assumption log 13). -/
def State.whenPixels (s : State) (run : Host.Outcome State Fault Refusal) : Host.Outcome State Fault Refusal :=
  if s.n = 0#16 then .fault .emptyStrip else run

/-- Whether a handler acts on an event from handle `e`: the guards of 43_streaming_engine.md R182. -/
def State.accepts (s : State) (e : Byte) : Bool :=
  s.inited && e == s.hid && s.cur != 0#17

/-- The common guards: an event that is not accepted changes nothing (43_streaming_engine.md R182). -/
def State.guarded (s : State) (e : Byte) (run : State) : State :=
  if s.accepts e then run else s

/-- The data phase: the cursor names a pixel still to be encoded (10_state.md R28). -/
def State.inData (s : State) : Bool := s.cur.toNat < s.n.toNat

/-- The cursor has not made both reset-phase advances (10_state.md R28); together with the negation of `inData` this is
the reset phase. -/
def State.beforeTerminal (s : State) : Bool := s.cur.toNat < s.n.toNat + 2

end Sys2Proof.Machine
end

