-- ==== Sys2Proof/Machine/Operands.lean ====
section
/-! DEFINITION. The constants the source fixes (00_scope.md R8) and the operand computations: the effective pixel number
(30_encoding.md R99), the effective addresses (42_bit_encoder.md R164) and the write datapath of the Pixel Buffer
(41_pixel_buffer.md R140, R141). -/

namespace Sys2Proof.Machine

/-- The target carrier frequency in Hz (00_scope.md R8). -/
def carrierHz : Nat := 800000
/-- The logical-1 duty factor in hundredths (00_scope.md R8). -/
def dutyHi : Nat := 56
/-- The logical-0 duty factor in hundredths (00_scope.md R8). -/
def dutyLo : Nat := 28
/-- The smallest accepted period (00_scope.md R9, D6). -/
def periodMin : Nat := 8
/-- Slots in one half of the Transfer Buffer (00_scope.md R8). -/
def halfLen : Nat := 24
/-- Channel bytes of one pixel (00_scope.md R8). -/
def bytesPerPixel : Nat := 3
/-- Compare values of one channel byte (00_scope.md R8). -/
def bitsPerByte : Nat := 8
/-- Cursor advances in the reset phase (00_scope.md R8). -/
def resetAdvances : Nat := 2
/-- The green multiplier, over 256 (00_scope.md R8). -/
def gammaG : Nat := 0xB0
/-- The blue multiplier, over 256 (00_scope.md R8). -/
def gammaB : Nat := 0xF0

/-- The base slot of the first half (20_memory.md R63). -/
def firstHalf : Nat := 0
/-- The base slot of the second half (20_memory.md R63). -/
def secondHalf : Nat := halfLen

/-- SETPIX's effective pixel number `idx mod n` (30_encoding.md R99). -/
def pixelNumber (idx n : Count) : Nat := idx.toNat % n.toNat

/-- The Pixel Buffer offset of byte `k` of pixel `p` (20_memory.md R61, 42_bit_encoder.md R164). -/
def pixelOffset (p k : Nat) : Nat := bytesPerPixel * p + k

/-- DIVISOR(b) (41_pixel_buffer.md R140). -/
def divisor (b : Byte) : Nat := 256 / (b.toNat + 1)

/-- SCALE(c, b) (41_pixel_buffer.md R140). -/
def scale (c b : Byte) : Byte := BitVec.ofNat 8 (c.toNat / divisor b)

/-- GAMMA_GREEN (41_pixel_buffer.md R141). -/
def gammaGreen (g : Byte) : Byte := BitVec.ofNat 8 (g.toNat * gammaG / 256)

/-- GAMMA_BLUE (41_pixel_buffer.md R141). -/
def gammaBlue (b : Byte) : Byte := BitVec.ofNat 8 (b.toNat * gammaB / 256)

/-- The green byte stored for a requested green value: scaled, then gamma if enabled (41_pixel_buffer.md R142). -/
def State.storedGreen (s : State) (g : Byte) : Byte :=
  if s.gam then gammaGreen (scale g s.br) else scale g s.br

/-- The red byte stored for a requested red value: scaled only (41_pixel_buffer.md R141, R142). -/
def State.storedRed (s : State) (r : Byte) : Byte := scale r s.br

/-- The blue byte stored for a requested blue value: scaled, then gamma if enabled (41_pixel_buffer.md R142). -/
def State.storedBlue (s : State) (b : Byte) : Byte :=
  if s.gam then gammaBlue (scale b s.br) else scale b s.br

end Sys2Proof.Machine
end

