-- ==== Sys2Proof/Machine/PixelBuffer.lean ====
section
/-! DEFINITION. The Pixel Buffer's write operations SETPIX, FILL and SETBR (41_pixel_buffer.md). They test neither `st`
nor `cur` (R147, D32). -/

namespace Sys2Proof.Machine

/-- The three stores of SETPIX to pixel `j`: green, red, blue (41_pixel_buffer.md R142). -/
def State.storePixel (s : State) (j : Nat) (r g b : Byte) : State :=
  ((s.pbWrite (pixelOffset j 0) (s.storedGreen g)).pbWrite (pixelOffset j 1) (s.storedRed r)).pbWrite
    (pixelOffset j 2) (s.storedBlue b)

/-- SETPIX on pixels 0 to `k - 1` in ascending order, FILL's loop (41_pixel_buffer.md R143). -/
def State.fillPixels (s : State) (r g b : Byte) : Nat → State
  | 0 => s
  | k + 1 => (s.fillPixels r g b k).storePixel k r g b

/-- SETPIX (41_pixel_buffer.md R142). -/
def execSetpix (idx : Count) (r g b : Byte) (s : State) : Host.Outcome State Fault Refusal :=
  s.whenUsable (s.whenPixels (.next ((s.storePixel (pixelNumber idx s.n) r g b).answer .ok)))

/-- FILL (41_pixel_buffer.md R143). -/
def execFill (r g b : Byte) (s : State) : Host.Outcome State Fault Refusal :=
  s.whenUsable (.next ((s.fillPixels r g b s.n.toNat).answer .ok))

/-- SETBR (41_pixel_buffer.md R144). -/
def execSetbr (v : Byte) (s : State) : Host.Outcome State Fault Refusal :=
  s.whenUsable (.next (({ s with br := v }).answer .ok))

end Sys2Proof.Machine
end

