-- ==== Sys2Proof/Machine/Query.lean ====
section
/-! DEFINITION. The STATE query (44_state_query.md). -/

namespace Sys2Proof.Machine

/-- STATE (44_state_query.md R220). -/
def execState (s : State) : Host.Outcome State Fault Refusal :=
  s.whenUsable (.next (s.answer (match s.st with | .busy => .busy | .ready => .ready)))

end Sys2Proof.Machine
end

