-- ==== Sys2Proof/Machine/BitEncoder.lean ====
section
/-! DEFINITION. The Bit Encoder: the duty-cycle look-up, the expansion of bytes and pixels, and the reset pattern
(42_bit_encoder.md). -/

namespace Sys2Proof.Machine

/-- LUT (42_bit_encoder.md R160). -/
def State.lut (s : State) (x : Bool) : Nat := if x then s.hi else s.lo

/-- ENCBYTE: eight compare values, most significant bit first (42_bit_encoder.md R161). -/
def State.encByte (s : State) (v : Byte) : List Nat :=
  [s.lut (v.getLsbD 7), s.lut (v.getLsbD 6), s.lut (v.getLsbD 5), s.lut (v.getLsbD 4),
   s.lut (v.getLsbD 3), s.lut (v.getLsbD 2), s.lut (v.getLsbD 1), s.lut (v.getLsbD 0)]

/-- The 24 compare values of one pixel's bytes in storage order green, red, blue (42_bit_encoder.md R162). -/
def State.encBytes (s : State) (green red blue : Byte) : List Nat :=
  s.encByte green ++ s.encByte red ++ s.encByte blue

/-- The 24 compare values of pixel `p` as the Pixel Buffer holds it, `E(p)` (43_streaming_engine.md R200). -/
def State.pixelValues (s : State) (p : Nat) : List Nat :=
  s.encBytes (s.pbRead (pixelOffset p 0)) (s.pbRead (pixelOffset p 1)) (s.pbRead (pixelOffset p 2))

/-- The 24 compare values that a handler's ENCPIX computes for pixel `p` while a show runs (42_bit_encoder.md R162,
41_pixel_buffer.md R147, 93_implementation_defined.md U1; assumption log 9). -/
def State.pixelValuesRacing (s : State) (p : Nat) : List Nat :=
  s.encBytes (s.pbReadRacing (pixelOffset p 0)) (s.pbReadRacing (pixelOffset p 1))
    (s.pbReadRacing (pixelOffset p 2))

/-- ENCPIX as SHOW uses it, before any transfer exists: pixel `p` into the half with base `base`
(42_bit_encoder.md R162, 43_streaming_engine.md R178). -/
def State.encPix (s : State) (p base : Nat) : State := s.tbWriteFrom base (s.pixelValues p)

/-- The reset pattern of one half: the compare value 0, 24 times (42_bit_encoder.md R163; 90_conflicts.md C1). -/
def zeroValues : List Nat := List.replicate halfLen 0

/-- ZEROHALF (42_bit_encoder.md R163). -/
def State.zeroHalf (s : State) (base : Nat) : State := s.tbWriteFrom base zeroValues

end Sys2Proof.Machine
end

