-- ==== Sys2Proof/Machine/Streaming.lean ====
section
/-! DEFINITION. The Streaming Engine: SHOW, the HT, TC and ERR handlers, the shutdown, and the transfer engine's DRAIN
step (43_streaming_engine.md). -/

namespace Sys2Proof.Machine

/-! ### SHOW -/

/-- SHOW step 2: pixel 0 into the first half, pixel 1 or the reset pattern into the second (43_streaming_engine.md
R178, D17). -/
def State.stage (s : State) : State :=
  if 2 ≤ s.n.toNat then (s.encPix 0 firstHalf).encPix 1 secondHalf
  else (s.encPix 0 firstHalf).zeroHalf secondHalf

/-- SHOW steps 5 to 7: the engine starts at slot 0, the Strip is BUSY with cursor 2, the outputs are enabled
(43_streaming_engine.md R180, R195). -/
def State.startShow (s : State) : State :=
  (({ s with act := true, rd := 0, st := .busy, cur := 2#17, held := false }).emit
    [.outEnable, .counterEnable]).answer .ok

/-- SHOW ends in a hardware error; what was done stays done (43_streaming_engine.md R181, D19). -/
def State.failShow (s : State) : State := ({ s with flt := true, held := false }).answer .hwErr

/-- One round of SHOW's start loop (43_streaming_engine.md R179): one `A_START`, one StartResult; a busy answer leaves
SHOW held (assumption log 8). -/
def State.attemptStart (s : State) : State :=
  match s.startResult with
  | .ok => (s.drawStartResult.emit [.start]).startShow
  | .err => (s.drawStartResult.emit [.start]).failShow
  | .busy => { s.drawStartResult.emit [.start] with held := true }

/-- SHOW from its busy test on (43_streaming_engine.md R176, R177); ChReady is drawn only where `cur = 0`. -/
def State.beginShow (s : State) : State :=
  if s.cur ≠ 0#17 then s.answer .busy
  else if s.chReady = false then s.drawChReady.answer .busy
  else ((s.drawChReady.stage).emit [.armNotify]).attemptStart

/-- SHOW (43_streaming_engine.md R176). A SHOW that is held in its start loop goes on with the loop. -/
def execShow (s : State) : Host.Outcome State Fault Refusal :=
  s.whenUsable (s.whenPixels (.next (if s.held then s.attemptStart else s.beginShow)))

/-! ### The handlers -/

/-- Advance the Fill Cursor by one (10_state.md R29). -/
def State.advance (s : State) : State := { s with cur := s.cur + 1#17 }

/-- SHUTDOWN (43_streaming_engine.md R185, D33). The race record of the finished show is dropped (assumption log 9). -/
def State.shutdown (s : State) : State :=
  let moe := if s.cfg.breakCapable then [Action.mainOutputDisable] else []
  { s.emit ([.dmaRequestDisable, .abort] ++ moe ++ [.counterDisable]) with
    act := false, cur := 0#17, st := .ready, old := [] }

/-- The refill HT makes once its guards have passed, if its branch makes one (43_streaming_engine.md R183, D18). -/
def State.firstHalfRefill (s : State) : Option Refill :=
  if s.inData then some { slot := firstHalf, values := s.pixelValuesRacing s.cur.toNat, advances := true }
  else if s.beforeTerminal then some { slot := firstHalf, values := zeroValues, advances := false }
  else none

/-- The refill TC makes once its guards have passed, if its branch makes one (43_streaming_engine.md R184, D18;
90_conflicts.md C2). -/
def State.secondHalfRefill (s : State) : Option Refill :=
  if s.inData then some { slot := secondHalf, values := s.pixelValuesRacing s.cur.toNat, advances := true }
  else if s.beforeTerminal then some { slot := secondHalf, values := zeroValues, advances := true }
  else none

/-- The step of a handler after its last slot write. -/
def State.endRefill (s : State) (r : Refill) : State := if r.advances then s.advance else s

/-- A whole refill, as the one atomic transition that the handler rules write (00_scope.md R13). -/
def State.refillWhole (s : State) (r : Refill) : State := (s.tbWriteFrom r.slot r.values).endRefill r

/-- One slot write of a refill in progress; with the last one the handler ends (20_memory.md R68, 42_bit_encoder.md
R162; assumption log 10). -/
def State.refillSlot (s : State) (r : Refill) : State :=
  match r.values with
  | [] => ({ s with refill := none }).endRefill r
  | [v] => ({ s.tbWriteFrom r.slot [v] with refill := none }).endRefill r
  | v :: vs => { s.tbWriteFrom r.slot [v] with refill := some { r with slot := r.slot + 1, values := vs } }

/-- HT once its guards have passed (43_streaming_engine.md R183). -/
def State.onHalfComplete (s : State) : State :=
  match s.firstHalfRefill with
  | some r => s.refillWhole r
  | none => s

/-- TC once its guards have passed (43_streaming_engine.md R184). -/
def State.onComplete (s : State) : State :=
  match s.secondHalfRefill with
  | some r => s.refillWhole r
  | none => s.shutdown

/-- HT (43_streaming_engine.md R183). -/
def execHt (e : Byte) (s : State) : Host.Outcome State Fault Refusal :=
  .next (s.guarded e s.onHalfComplete)

/-- TC (43_streaming_engine.md R184). -/
def execTc (e : Byte) (s : State) : Host.Outcome State Fault Refusal :=
  .next (s.guarded e s.onComplete)

/-- ERR (43_streaming_engine.md R186, D25). An ERR that is handled after a TC that ended the show meets cursor 0 and is
ignored, as R182 says, although 60_exceptions.md R236 derives that the order of the two does not matter (DESIGN CHOICE,
assumption log 25). -/
def execErr (e : Byte) (s : State) : Host.Outcome State Fault Refusal :=
  .next (s.guarded e { s with flt := true })

/-- The refill that an operation makes in the present state: HT and TC make one where their guards pass and the cursor
is not at its terminal value; no other operation makes one. -/
def State.refillOf (s : State) : Instr → Option Refill
  | .ht e => if s.accepts e then s.firstHalfRefill else none
  | .tc e => if s.accepts e then s.secondHalfRefill else none
  | .err _ => none
  | .init _ _ _ _ => none
  | .setpix _ _ _ _ => none
  | .fill _ _ _ => none
  | .setbr _ => none
  | .showStrip => none
  | .queryState => none

/-! ### The transfer engine -/

/-- The compare value that a DRAIN step hands to the timer: the slot at `rd` as it stands (43_streaming_engine.md R196),
which during a refill is the old or the new value (20_memory.md R68, 93_implementation_defined.md U2; assumption
log 10), and which a notification that waits in `pend`, posted by the engine or by the environment (U8), does not
change. After an accepted error notification it is any value of CMP_W bits (U7; assumption log 11). -/
def State.slotOut (s : State) : Nat :=
  if s.flt then Config.freeAfterErr s.draws % 2 ^ s.cfg.cntW else s.tbRead s.rd.val

/-- The notification that the engine posts on reaching slot `rd`: HT at 24, TC at 0, each with the bound identity
(43_streaming_engine.md R196, R197). -/
def boundaryEvents (hid : Byte) (rd : Fin 48) : List EventWord :=
  if rd.val = halfLen then [eventWord 0x01 hid]
  else if rd.val = 0 then [eventWord 0x02 hid]
  else []

/-- DRAIN (43_streaming_engine.md R196); it is enabled only while a transfer is active (10_state.md R39). -/
def State.drain (s : State) : State :=
  if s.act then
    { s with
      tx := s.tx ++ [s.slotOut]
      rd := s.rd + 1
      pend := s.pend ++ boundaryEvents s.hid (s.rd + 1) }
  else s

end Sys2Proof.Machine
end

