-- ==== Sys2Proof/Machine/Timing.lean ====
section
/-! DEFINITION. The Timing Calculator and the INIT command (40_timing_calculator.md). -/

namespace Sys2Proof.Machine

/-- TIMCALC (40_timing_calculator.md R121) for a timer counter of `cntW` bits: the period and the two thresholds, or
nothing where it fails. -/
def timCalc (cntW f : Nat) : Option (Nat × Nat × Nat) :=
  let q := f / carrierHz
  let p : Int := (q : Int) - 1
  if p < periodMin ∨ p > 2 ^ cntW - 1 then none
  else some (p.toNat, p.toNat * dutyHi / 100 - 1, p.toNat * dutyLo / 100 - 1)

/-- A parameter error of INIT: nothing but `inited` changes (40_timing_calculator.md R120, D22). -/
def State.failInit (s : State) : State := ({ s with inited := false }).answer .paramErr

/-- Steps 4 to 7 of INIT (40_timing_calculator.md R120). -/
def State.finishInit (s : State) (hid : Byte) (gam : Bool) (n : Count) (per hi lo : Nat) : State :=
  (({ s.forgetMemories with
      per := per, hi := hi, lo := lo
      n := n, gam := gam, hid := hid, br := s.cfg.brReset
      st := .ready, cur := 0#17, flt := false, inited := true }).emit [.setPeriod per, .update]).answer .ok

/-- INIT once its precondition holds: the three tests of steps 1 to 3, then steps 4 to 7
(40_timing_calculator.md R120). -/
def State.initialise (s : State) (sel hid : Byte) (gam : Bool) (n : Count) : State :=
  if n = 0#16 ∨ s.cfg.nMax.toNat < n.toNat then s.failInit
  else
    match s.clkFreq sel with
    | none => s.failInit
    | some f =>
      match timCalc s.cfg.cntW f with
      | none => s.failInit
      | some (per, hi, lo) => s.finishInit hid gam n per hi lo

/-- INIT (40_timing_calculator.md R120); while a show is in flight it has no meaning (93_implementation_defined.md
U5). -/
def execInit (sel hid : Byte) (gam : Bool) (n : Count) (s : State) : Host.Outcome State Fault Refusal :=
  if s.inited = true ∧ s.cur ≠ 0#17 then .refused .initDuringShow
  else .next (s.initialise sel hid gam n)

end Sys2Proof.Machine
end

