-- ==== Sys2Proof/Machine/Dispatch.lean ====
section
/-! DEFINITION. One arm for each operation of spec/opcode_table.json. -/

namespace Sys2Proof.Machine

def exec (i : Instr) (s : State) : Host.Outcome State Fault Refusal :=
  match i with
  | .init sel hid gam n => Sys2Proof.Machine.execInit sel hid gam n s
  | .setpix idx r g b => Sys2Proof.Machine.execSetpix idx r g b s
  | .fill r g b => Sys2Proof.Machine.execFill r g b s
  | .setbr v => Sys2Proof.Machine.execSetbr v s
  | .showStrip => Sys2Proof.Machine.execShow s
  | .queryState => Sys2Proof.Machine.execState s
  | .ht hid => Sys2Proof.Machine.execHt hid s
  | .tc hid => Sys2Proof.Machine.execTc hid s
  | .err hid => Sys2Proof.Machine.execErr hid s

end Sys2Proof.Machine
end

