-- ==== Sys2Proof/Machine/Ports.lean ====
section
/-! DEFINITION. What one move of one agent does: a word arriving on a port is decoded and its operation executed
(30_encoding.md R90, R101, R102; 43_streaming_engine.md R187). A move that is not enabled changes nothing but the
step counter and the queue of moves (assumption log 20). -/

namespace Sys2Proof.Machine

/-- A command word on the command port: its operation, or PARAM_ERR and nothing else for an illegal word
(30_encoding.md R101). -/
def State.runCommand (s : State) (w : CommandWord) : Host.Outcome State Fault Refusal :=
  match decodeCommand w with
  | .ok i => exec i s
  | .error _ => .next (s.answer .paramErr)

/-- An event word at the handler agent: its handler, or nothing for an unknown kind (30_encoding.md R102;
43_streaming_engine.md R187). -/
def State.runEvent (s : State) (e : EventWord) : Host.Outcome State Fault Refusal :=
  match decodeEvent e with
  | .ok i => exec i s
  | .error _ => .next s

/-- An event word at the handler agent, its handler's refill left to be made slot by slot; a handler that makes no
refill runs to its end (20_memory.md R68, 93_implementation_defined.md U2; assumption log 10). -/
def State.beginEvent (s : State) (e : EventWord) : Host.Outcome State Fault Refusal :=
  match decodeEvent e with
  | .ok i =>
    match s.refillOf i with
    | some r => .next { s with refill := some r }
    | none => exec i s
  | .error _ => .next s

/-- The handler agent takes the oldest event, if there is one (60_exceptions.md R233, R236, R237), and does with it what
`run` says. -/
def State.takeOldest (s : State) (run : State → EventWord → Host.Outcome State Fault Refusal) :
    Host.Outcome State Fault Refusal :=
  match s.pend with
  | [] => .next s
  | e :: _ => run s.takeEvent e

/-- A move of the one thread that the host and the handlers share (43_streaming_engine.md R187, 60_exceptions.md R239):
while a handler's refill is in progress it is the refill's next slot write, made in the state `counted`; else it is
`run`. -/
def State.onThread (s counted : State) (run : Host.Outcome State Fault Refusal) : Host.Outcome State Fault Refusal :=
  match s.refill with
  | some r => .next (counted.refillSlot r)
  | none => run

/-- One move. While a SHOW is held, the command port takes no word: the host's move is one more round of the start
loop, and a queued word waits (30_encoding.md R90, 43_streaming_engine.md R179; assumption log 8). While a refill is in
progress a queued word waits too (assumption log 10). -/
def State.runTurn (s : State) : Turn → Host.Outcome State Fault Refusal
  | .command w => s.onThread s.tick (if s.held then exec .showStrip s.tick else s.popTurn.runCommand w)
  | .retry => s.onThread s.popTurn (if s.held then exec .showStrip s.popTurn else .next s.popTurn)
  | .post e => .next (s.popTurn.post e)
  | .handle => s.onThread s.popTurn (s.popTurn.takeOldest State.runEvent)
  | .beginHandler => s.onThread s.popTurn (s.popTurn.takeOldest State.beginEvent)
  | .drain => .next s.popTurn.drain
  | .clock sel f => .next (s.popTurn.setClock sel f)

end Sys2Proof.Machine
end

