-- ==== Sys2Proof/Machine/Step.lean ====
section
/-! DEFINITION. One step of the machine: one move of one agent (00_scope.md R13, R15). -/

namespace Sys2Proof.Machine

/-- One step: the move that the queue of moves, or a free value, names (assumption log 2). -/
def step (s : State) : Host.Outcome State Fault Refusal := s.runTurn s.nextTurn

/-- `s` with a table word placed so that the next step runs its operation: a command word (more than 16 bits) on the
free command port with the host's move next, an event word at the head of the event queue with the handler agent's
move next, and in both cases no handler's refill in progress (assumption log 16). -/
def State.withFetchWord (s : State) (nbits w : Nat) : State :=
  if nbits ≤ 16 then
    { s with pend := BitVec.ofNat 16 w :: s.pend, turns := .handle :: s.turns, refill := none }
  else
    { s with turns := .command (BitVec.ofNat 64 w) :: s.turns, held := false, refill := none }

end Sys2Proof.Machine
end

