-- ==== Sys2Proof/Safety.lean ====
section
/-! DEFINITION. The terms in which claims speak of runs: the machine's invariant, the nominal schedule
(43_streaming_engine.md R199), and what a show should transmit (R200). -/

namespace Sys2Proof.Machine

/-- A command word is illegal if its `op` is none of 1 to 6 or a reserved bit of its format is 1 (30_encoding.md R91,
R101): the words of the rule, without the decoder. -/
abbrev illegalCommandWord (w : CommandWord) : Prop :=
  let op := w.toNat / 2 ^ 56
  (op = 0 ∨ 7 ≤ op) ∨
  (op = 1 ∧ w &&& 0x000000FE0000FFFF ≠ 0) ∨
  (op = 2 ∧ w &&& 0x00FF0000FF000000 ≠ 0) ∨
  (op = 3 ∧ w &&& 0x00FFFFFFFF000000 ≠ 0) ∨
  (op = 4 ∧ w &&& 0x00FFFFFFFFFFFF00 ≠ 0) ∨
  ((op = 5 ∨ op = 6) ∧ w &&& 0x00FFFFFFFFFFFFFF ≠ 0)

/-- The registers of an initialised Strip are in their domains (10_state.md R20 to R25, 40_timing_calculator.md
R125). -/
abbrev State.RegistersOk (s : State) : Prop :=
  s.inited = true →
    0 < s.n.toNat ∧ s.n.toNat ≤ s.cfg.nMax.toNat ∧
    periodMin ≤ s.per ∧ s.per < 2 ^ s.cfg.cntW ∧ 1 ≤ s.lo ∧ s.lo + 2 ≤ s.hi ∧ s.hi < s.per

/-- The Fill Cursor of an initialised Strip is 0 exactly while the Strip is READY, and between 2 and `n + 2` while it
is BUSY (10_state.md R30). -/
abbrev State.CursorOk (s : State) : Prop :=
  s.inited = true →
    (s.st = .ready ↔ s.cur = 0#17) ∧ (s.st = .busy → 2 ≤ s.cur.toNat ∧ s.cur.toNat ≤ s.n.toNat + 2)

/-- A transfer is active exactly while a show is in flight (10_state.md R39, R45). -/
abbrev State.EngineOk (s : State) : Prop := s.act = true ↔ (s.inited = true ∧ s.cur ≠ 0#17)

/-- The Pixel Buffer is in canonical form, and an initialised Strip's has no byte outside `0 .. 3n - 1`
(10_state.md R35, 20_memory.md R62). -/
abbrev State.PixelBufferOk (s : State) : Prop :=
  Memory.wf s.pb ∧ (s.inited = true → ∀ p ∈ s.pb, p.1 < bytesPerPixel * s.n.toNat)

/-- The Transfer Buffer is in canonical form, has no slot outside `0 .. 47` and no value wider than CMP_W; an
initialised Strip's holds only `hi`, `lo` and 0; and all 48 slots are written while a transfer is active or a
SHOW is held (10_state.md R36, R45, 20_memory.md R64). -/
abbrev State.TransferBufferOk (s : State) : Prop :=
  Memory.wf s.tb ∧ (∀ p ∈ s.tb, p.1 < 48 ∧ p.2 < 2 ^ s.cfg.cntW) ∧
  (s.inited = true → ∀ p ∈ s.tb, p.2 = s.hi ∨ p.2 = s.lo ∨ p.2 = 0) ∧
  (s.act = true ∨ s.held = true → ∀ i, i < 48 → (Memory.read s.tb i).isSome = true)

/-- Everything handed to the timer fits CMP_W bits (20_memory.md R64). -/
abbrev State.StreamOk (s : State) : Prop := ∀ v ∈ s.tx, v < 2 ^ s.cfg.cntW

/-- A SHOW is held only on a usable, idle Strip (43_streaming_engine.md R179, 60_exceptions.md R238), and the race record
of a READY Strip is empty. -/
abbrev State.BookkeepingOk (s : State) : Prop :=
  (s.held = true → s.inited = true ∧ s.flt = false ∧ s.cur = 0#17) ∧
  (s.inited = true → s.st = .ready → s.old = [])

/-- A refill in progress belongs to a running show before its terminal cursor value, has a slot still to write, ends at
the end of a half, and writes only `hi`, `lo` and 0 (43_streaming_engine.md R183, R184; assumption log 10). -/
abbrev State.RefillOk (s : State) : Prop :=
  ∀ r ∈ s.refill,
    s.act = true ∧ s.cur.toNat < s.n.toNat + 2 ∧ r.values ≠ [] ∧ r.values.length ≤ 24 ∧
    (r.slot + r.values.length = 24 ∨ r.slot + r.values.length = 48) ∧
    ∀ v ∈ r.values, v = s.hi ∨ v = s.lo ∨ v = 0

/-- The machine's invariant. It says nothing about the registers that power-on leaves unspecified (10_state.md R44)
until INIT has succeeded. -/
structure State.Inv (s : State) : Prop where
  registers : s.RegistersOk
  cursor : s.CursorOk
  engine : s.EngineOk
  pixels : s.PixelBufferOk
  slots : s.TransferBufferOk
  stream : s.StreamOk
  bookkeeping : s.BookkeepingOk
  refilling : s.RefillOk

/-- The nominal schedule for `k` halves: the engine drains a half, then the handler of the event it posted runs
(43_streaming_engine.md R199). -/
def nominalTurns : Nat → List Turn
  | 0 => []
  | k + 1 => List.replicate halfLen Turn.drain ++ Turn.handle :: nominalTurns k

/-- The number of zeroed halves that end a show of `n` pixels (43_streaming_engine.md R200). -/
def zeroHalves (n : Nat) : Nat := if n % 2 = 1 then 3 else 4

/-- What a show of the present Pixel Buffer transmits: every pixel in order, then the zeroed halves
(43_streaming_engine.md R200). -/
def State.frame (s : State) : List Nat :=
  (List.range s.n.toNat).flatMap s.pixelValues ++ List.replicate (halfLen * zeroHalves s.n.toNat) 0

end Sys2Proof.Machine
end

