-- ==== Sys2Proof/Certificates/Slice0/Obligations.lean ====
section
/-! DEFINITION. The statements for the provers, in the order of the spec's files: encoding, Timing Calculator and INIT,
Pixel Buffer, Streaming Engine, transfer engine, query, and the rules about the whole machine. -/

open Sys2Proof Sys2Proof.Machine

/-! ### Encoding and the ports (30_encoding.md) -/

/-- No bit of any encoding is dropped: decoding an operation's word gives the operation back, whatever its operands
(R91, R98, R99). -/
def Obligations.DecodeOfEncode : Prop :=
  ∀ i : Instr, decode (encode i) = .ok i

/-- Each word has one meaning: a word that decodes to an operation is that operation's word (R91, R98, R101). -/
def Obligations.EncodeOfDecode : Prop :=
  ∀ (p : PortWord) (i : Instr), decode p = .ok i → encode i = p

/-- The decoder, written from the field layout of R91 and R98, accepts exactly the words that the mask and match
columns of R106 accept. -/
def Obligations.DecoderAcceptsTableWords : Prop :=
  ∀ p : PortWord, (∃ i, decode p = .ok i) ↔ p.wellFormed = true

/-- Words of the spec's test vectors (95_test_vectors.md section 2.4) decode to the operations they stand for. -/
def Obligations.SpecWordsDecode : Prop :=
  decodeCommand 0x0100FF01FFFF0000 = .ok (.init 0 255 true 65535) ∧
  decodeCommand 0x0200FFFF0001AA55 = .ok (.setpix 65535 0x01 0xAA 0x55) ∧
  decodeCommand 0x0300000000010203 = .ok (.fill 1 2 3) ∧
  decodeCommand 0x040000000000007F = .ok (.setbr 127) ∧
  decodeCommand 0x0500000000000000 = .ok .showStrip ∧
  decodeCommand 0x0600000000000000 = .ok .queryState ∧
  decodeEvent 0x0107 = .ok (.ht 7) ∧ decodeEvent 0x0207 = .ok (.tc 7) ∧ decodeEvent 0x0307 = .ok (.err 7)

/-- A step at which the host presents a word that decodes runs the decoded operation; a step at which the handler agent
takes an event that decodes removes it from the queue and runs its handler, or, where the handler refills a half and
the agent is to make the refill slot by slot, begins the refill; around that a step only takes the move from the queue
of moves and counts itself (R90; 43_streaming_engine.md R187; assumption log 2, 10, 21). While a SHOW is held, the
host's move goes on with that SHOW and a queued word waits (43_streaming_engine.md R179; log 8). The moves while a
refill is in progress are `RefillWritesOneSlotPerMove`. -/
def Obligations.StepRunsDecodedInstruction : Prop :=
  ∀ s : State, s.refill = none →
    (∀ w i, s.nextTurn = .command w → s.held = false → decodeCommand w = .ok i →
      step s = exec i { s with turns := s.turns.tail, draws := s.draws + 1 }) ∧
    (∀ e es i, s.nextTurn = .handle → s.pend = e :: es → decodeEvent e = .ok i →
      step s = exec i { s with turns := s.turns.tail, draws := s.draws + 1, pend := es }) ∧
    (∀ e es i u, s.nextTurn = .beginHandler → s.pend = e :: es → decodeEvent e = .ok i →
      u = { s with turns := s.turns.tail, draws := s.draws + 1, pend := es } →
      step s = match u.refillOf i with
        | some r => .next { u with refill := some r }
        | none => exec i u) ∧
    (∀ w, s.nextTurn = .command w → s.held = true → step s = exec .showStrip { s with draws := s.draws + 1 }) ∧
    (s.nextTurn = .retry → s.held = true →
      step s = exec .showStrip { s with turns := s.turns.tail, draws := s.draws + 1 })

/-- A table word placed for the next step is the operation that the next step runs (assumption log 16). -/
def Obligations.PlacedWordRunsNext : Prop :=
  ∀ (s : State) (w : Nat) (i : Instr),
    (decodeTableWord 64 w = some i →
      step (s.withFetchWord 64 w) = exec i { s with held := false, refill := none, draws := s.draws + 1 }) ∧
    (decodeTableWord 16 w = some i →
      step (s.withFetchWord 16 w) = exec i { s with refill := none, draws := s.draws + 1 })

/-- An illegal command word (unknown `op`, or a reserved bit of its format set) changes no state, emits no action and is
answered PARAM_ERR; every other word is an operation (R101). -/
def Obligations.IllegalCommandWordAnswered : Prop :=
  ∀ w : CommandWord,
    (illegalCommandWord w → ∀ s : State, s.nextTurn = .command w → s.held = false → s.refill = none →
      step s = .next { s with
        turns := s.turns.tail, draws := s.draws + 1, resp := s.resp ++ [.paramErr] }) ∧
    (¬ illegalCommandWord w → ∃ i, decodeCommand w = .ok i)

/-- An event word of unknown kind is ignored: it leaves the queue and nothing else changes (R102). -/
def Obligations.UnknownEventIgnored : Prop :=
  ∀ (s : State) (e : EventWord) (es : List EventWord),
    (s.nextTurn = .handle ∨ s.nextTurn = .beginHandler) → s.refill = none → s.pend = e :: es →
    (e.toNat / 256 = 0 ∨ 4 ≤ e.toNat / 256) →
    step s = .next { s with turns := s.turns.tail, draws := s.draws + 1, pend := es }

/-- The environment's moves: a posted event joins the end of the queue; a clock change reaches only what later INITs
sample (70_reset_and_hazards.md R284); a move that is not enabled does nothing (assumption log 20). -/
def Obligations.EnvironmentMovesTouchOnlyInputs : Prop :=
  ∀ s : State,
    (∀ e, s.nextTurn = .post e →
      step s = .next { s with turns := s.turns.tail, draws := s.draws + 1, pend := s.pend ++ [e] }) ∧
    (∀ sel f, s.nextTurn = .clock sel f →
      ∃ t, step s = .next t ∧ t = { s with turns := s.turns.tail, draws := s.draws + 1, clk := t.clk } ∧
        t.clkFreq sel = f ∧ ∀ sel', sel' ≠ sel → t.clkFreq sel' = s.clkFreq sel') ∧
    (((s.nextTurn = .handle ∨ s.nextTurn = .beginHandler) ∧ s.refill = none ∧ s.pend = []) ∨
        (s.nextTurn = .drain ∧ s.act = false) ∨ (s.nextTurn = .retry ∧ s.refill = none ∧ s.held = false) →
      step s = .next { s with turns := s.turns.tail, draws := s.draws + 1 })

/-- The answers of the commands: SETPIX, FILL, SETBR answer OK; STATE answers READY or BUSY; INIT answers OK or
PARAM_ERR; SHOW answers OK, BUSY or HW_ERR, or nothing yet while it is held; handlers answer nothing; and the codes
are numbered as R100 numbers them. -/
def Obligations.CommandsAnswerTheirCodes : Prop :=
  (∀ (s t : State) (i : Instr), exec i s = .next t →
    match i with
    | .init _ _ _ _ => t.resp = s.resp ++ [.ok] ∨ t.resp = s.resp ++ [.paramErr]
    | .setpix _ _ _ _ => t.resp = s.resp ++ [.ok]
    | .fill _ _ _ => t.resp = s.resp ++ [.ok]
    | .setbr _ => t.resp = s.resp ++ [.ok]
    | .showStrip =>
        t.resp = s.resp ++ [.ok] ∨ t.resp = s.resp ++ [.busy] ∨ t.resp = s.resp ++ [.hwErr] ∨
        (t.held = true ∧ t.resp = s.resp)
    | .queryState => t.resp = s.resp ++ [.ready] ∨ t.resp = s.resp ++ [.busy]
    | .ht _ => t.resp = s.resp
    | .tc _ => t.resp = s.resp
    | .err _ => t.resp = s.resp) ∧
  Status.ok.code = 0x00 ∧ Status.ready.code = 0x01 ∧ Status.busy.code = 0x02 ∧
  Status.paramErr.code = 0x03 ∧ Status.hwErr.code = 0x04

/-! ### Timing Calculator and INIT (40_timing_calculator.md) -/

/-- TIMCALC succeeds exactly for clocks from 7.2 MHz up to, not including, 800 kHz times `2^CNT_W + 1` (R122, which
marks the bound as derived from R121). -/
def Obligations.TimCalcSucceedsExactly : Prop :=
  ∀ cntW f : Nat,
    (timCalc cntW f).isSome = true ↔ 7200000 ≤ f ∧ f < 800000 * (2 ^ cntW + 1)

/-- What TIMCALC returns: the period is clock / target - 1, the thresholds are the truncated products minus one, and
the properties of R125 (which marks them as derived) hold: the order `0 < lo < hi < period`, the fit in CNT_W bits, and
the distance of the thresholds from 56 and 28 hundredths of the period. -/
def Obligations.TimCalcThresholdsOrdered : Prop :=
  ∀ cntW f P H L : Nat, timCalc cntW f = some (P, H, L) →
    P + 1 = f / 800000 ∧ 8 ≤ P ∧ P < 2 ^ cntW ∧
    H + 1 = P * 56 / 100 ∧ L + 1 = P * 28 / 100 ∧
    1 ≤ L ∧ L + 2 ≤ H ∧ H < P ∧
    56 * P < 100 * H + 200 ∧ 100 * H + 100 ≤ 56 * P ∧
    28 * P < 100 * L + 200 ∧ 100 * L + 100 ≤ 28 * P

/-- INIT with acceptable operands and no show in flight leaves the state of 10_state.md R45: operands bound, thresholds
computed, READY, cursor 0, both memories with new unspecified contents, two actions, answer OK (R120). These clauses
are the model's choice: `rd`, which R45 lists as unspecified, and `act`, which R45 gives as 0, keep their values
(assumption log 22; under the machine's invariant `act` is 0 where no show is in flight); the unspecified contents have
the form of two empty memories and a new `epoch` (assumption log 6); and the race record is emptied (assumption log 9).
Everything else (`pend`, `tx`, the environment's inputs, the model's own fields) is as before. -/
def Obligations.InitEstablishesReadyStrip : Prop :=
  ∀ (s : State) (sel hid : Byte) (gam : Bool) (n : Count) (f : Nat),
    (s.inited = false ∨ s.cur = 0#17) →
    n ≠ 0#16 → n.toNat ≤ s.cfg.nMax.toNat →
    s.clkFreq sel = some f → 7200000 ≤ f → f < 800000 * (2 ^ s.cfg.cntW + 1) →
    exec (.init sel hid gam n) s = .next { s with
      n := n, br := s.cfg.brReset, gam := gam, hid := hid
      per := f / 800000 - 1
      hi := (f / 800000 - 1) * 56 / 100 - 1
      lo := (f / 800000 - 1) * 28 / 100 - 1
      st := .ready, cur := 0#17, inited := true, flt := false
      pb := [], tb := [], old := [], epoch := s.epoch + 1
      hal := s.hal ++ [.setPeriod (f / 800000 - 1), .update]
      resp := s.resp ++ [.ok] }

/-- INIT with an unacceptable pixel count, an unrecognised selector or a clock that gives no usable period, while no
show is in flight, is answered PARAM_ERR, leaves the Strip uninitialised and changes nothing else (R120; D22). -/
def Obligations.InitParameterErrorChangesNothingElse : Prop :=
  ∀ (s : State) (sel hid : Byte) (gam : Bool) (n : Count),
    (s.inited = false ∨ s.cur = 0#17) →
    (n = 0#16 ∨ s.cfg.nMax.toNat < n.toNat ∨ s.clkFreq sel = none ∨
      ∃ f, s.clkFreq sel = some f ∧ (f < 7200000 ∨ 800000 * (2 ^ s.cfg.cntW + 1) ≤ f)) →
    exec (.init sel hid gam n) s = .next { s with inited := false, resp := s.resp ++ [.paramErr] }

/-- INIT while a show is in flight stops with the refusal of that name (R120, 93_implementation_defined.md U5). -/
def Obligations.InitRefusedDuringShow : Prop :=
  ∀ (s : State) (sel hid : Byte) (gam : Bool) (n : Count),
    s.inited = true → s.cur ≠ 0#17 → exec (.init sel hid gam n) s = .refused .initDuringShow

/-! ### Pixel Buffer (41_pixel_buffer.md) -/

/-- SCALE is two truncating divisions, the inner one first; brightness 128 and above leaves the channel unchanged and
brightness 0 stores 0 (R140). -/
def Obligations.BrightnessDividesChannel : Prop :=
  ∀ c b : Byte,
    divisor b = 256 / (b.toNat + 1) ∧ 1 ≤ divisor b ∧ divisor b ≤ 256 ∧
    (scale c b).toNat = c.toNat / divisor b ∧
    (128 ≤ b.toNat → scale c b = c) ∧ (b.toNat = 0 → scale c b = 0#8)

/-- GAMMA multiplies the scaled green by 176 and the scaled blue by 240, over 256, truncating, and only where it is
enabled; red is only scaled (R141). -/
def Obligations.GammaScalesGreenAndBlueOnly : Prop :=
  ∀ (s : State) (c : Byte),
    (gammaGreen c).toNat = c.toNat * 176 / 256 ∧ (gammaGreen c).toNat ≤ 175 ∧
    (gammaBlue c).toNat = c.toNat * 240 / 256 ∧ (gammaBlue c).toNat ≤ 239 ∧
    s.storedRed c = scale c s.br ∧
    (s.gam = true → s.storedGreen c = gammaGreen (scale c s.br) ∧ s.storedBlue c = gammaBlue (scale c s.br)) ∧
    (s.gam = false → s.storedGreen c = scale c s.br ∧ s.storedBlue c = scale c s.br)

/-- Increasing brightness never decreases a stored byte, with and without gamma (R145, which marks it as a consequence;
the source's testable property). -/
def Obligations.BrightnessIsMonotonic : Prop :=
  ∀ (s s' : State) (c : Byte), s.br.toNat ≤ s'.br.toNat → s.gam = s'.gam →
    (s.storedGreen c).toNat ≤ (s'.storedGreen c).toNat ∧
    (s.storedRed c).toNat ≤ (s'.storedRed c).toNat ∧
    (s.storedBlue c).toNat ≤ (s'.storedBlue c).toNat

/-- SETPIX on a usable Strip, in any state of `st`, answers OK, stores the scaled bytes of pixel `idx mod n` in the order
green, red, blue, and leaves every other byte and everything else unchanged (R142, R147). The race record, which is the
model's choice (assumption log 9), is unchanged while READY; while BUSY it gains, for each of the three bytes, the byte's
earlier value, and nothing else. -/
def Obligations.SetpixStoresOnePixel : Prop :=
  ∀ (s : State) (idx : Count) (r g b : Byte) (d j : Nat),
    s.inited = true → s.flt = false → s.n ≠ 0#16 →
    d = 256 / (s.br.toNat + 1) → j = idx.toNat % s.n.toNat →
    ∃ t, exec (.setpix idx r g b) s = .next t ∧
      t = { s with pb := t.pb, old := t.old, resp := s.resp ++ [.ok] } ∧
      (t.pbRead (3 * j)).toNat = (if s.gam then g.toNat / d * 176 / 256 else g.toNat / d) ∧
      (t.pbRead (3 * j + 1)).toNat = r.toNat / d ∧
      (t.pbRead (3 * j + 2)).toNat = (if s.gam then b.toNat / d * 240 / 256 else b.toNat / d) ∧
      (∀ a, (a < 3 * j ∨ 3 * j + 2 < a) → t.pbRead a = s.pbRead a) ∧
      (s.st = .ready → t.old = s.old) ∧
      (s.st = .busy →
        (∀ a, (a < 3 * j ∨ 3 * j + 2 < a) → t.overwritten a = s.overwritten a) ∧
        ∀ a, 3 * j ≤ a → a ≤ 3 * j + 2 → t.overwritten a = s.pbRead a :: s.overwritten a)

/-- FILL on a usable Strip answers OK, stores the same scaled bytes in every pixel, and leaves every byte outside the
Pixel Buffer's `3n` bytes and everything else unchanged (R143). The race record, which is the model's choice (assumption
log 9), is unchanged while READY; while BUSY it gains, for each of the `3n` bytes, the byte's earlier value, and nothing
else. -/
def Obligations.FillStoresEveryPixel : Prop :=
  ∀ (s : State) (r g b : Byte) (d : Nat),
    s.inited = true → s.flt = false → d = 256 / (s.br.toNat + 1) →
    ∃ t, exec (.fill r g b) s = .next t ∧
      t = { s with pb := t.pb, old := t.old, resp := s.resp ++ [.ok] } ∧
      (∀ j, j < s.n.toNat →
        (t.pbRead (3 * j)).toNat = (if s.gam then g.toNat / d * 176 / 256 else g.toNat / d) ∧
        (t.pbRead (3 * j + 1)).toNat = r.toNat / d ∧
        (t.pbRead (3 * j + 2)).toNat = (if s.gam then b.toNat / d * 240 / 256 else b.toNat / d)) ∧
      (∀ a, 3 * s.n.toNat ≤ a → t.pbRead a = s.pbRead a) ∧
      (s.st = .ready → t.old = s.old) ∧
      (s.st = .busy →
        (∀ a, 3 * s.n.toNat ≤ a → t.overwritten a = s.overwritten a) ∧
        ∀ a, a < 3 * s.n.toNat → t.overwritten a = s.pbRead a :: s.overwritten a)

/-- SETBR on a usable Strip sets the brightness, answers OK and changes nothing else: no stored byte is rescaled
(R144). -/
def Obligations.SetbrSetsBrightnessOnly : Prop :=
  ∀ (s : State) (v : Byte), s.inited = true → s.flt = false →
    exec (.setbr v) s = .next { s with br := v, resp := s.resp ++ [.ok] }

/-- An index outside the Strip aliases the index it is congruent to modulo the pixel count; in particular index `n`
behaves as index 0 (R142). -/
def Obligations.SetpixIndexWraps : Prop :=
  ∀ (s : State) (idx idx' : Count) (r g b : Byte),
    idx.toNat % s.n.toNat = idx'.toNat % s.n.toNat →
    exec (.setpix idx r g b) s = exec (.setpix idx' r g b) s

/-- SETPIX repeated with the same arguments stores the same bytes: the Pixel Buffer's contents are as after the first
(R142, R145). -/
def Obligations.SetpixIsIdempotent : Prop :=
  ∀ (s t : State) (idx : Count) (r g b : Byte), exec (.setpix idx r g b) s = .next t →
    ∃ u, exec (.setpix idx r g b) t = .next u ∧ u.pb = t.pb

/-! ### SHOW (43_streaming_engine.md R176 to R181) -/

/-- SHOW's busy test: with a show in flight, or with the channel not ready, SHOW answers BUSY and nothing else changes
(of the environment's queued answers one is used where ChReady is drawn, and ChReady is drawn only where the cursor is
0) (R177). -/
def Obligations.ShowBusyHasNoSideEffect : Prop :=
  ∀ s : State, s.inited = true → s.flt = false → s.n ≠ 0#16 → s.held = false →
    (s.cur ≠ 0#17 → exec .showStrip s = .next { s with resp := s.resp ++ [.busy] }) ∧
    (s.cur = 0#17 → s.chReady = false →
      exec .showStrip s = .next { s with readyIn := s.readyIn.tail, resp := s.resp ++ [.busy] })

/-- SHOW on an idle Strip with the channel ready stages all 48 slots, whatever the start attempt answers: pixel 0 in the
first half, pixel 1 in the second, or the reset pattern there on a 1-pixel strip (R178). -/
def Obligations.ShowStagesFirstPixels : Prop :=
  ∀ s : State, s.inited = true → s.flt = false → s.n ≠ 0#16 → s.held = false → s.cur = 0#17 → s.chReady = true →
    ∃ t, exec .showStrip s = .next t ∧
      (∀ k i, k < 3 → i < 8 →
        t.tbRead (8 * k + i) = if (s.pbRead k).getLsbD (7 - i) then s.hi else s.lo) ∧
      (2 ≤ s.n.toNat → ∀ k i, k < 3 → i < 8 →
        t.tbRead (24 + 8 * k + i) = if (s.pbRead (3 + k)).getLsbD (7 - i) then s.hi else s.lo) ∧
      (s.n.toNat = 1 → ∀ j, 24 ≤ j → j < 48 → t.tbRead j = 0) ∧
      ∀ j, 48 ≤ j → t.tbRead j = s.tbRead j

/-- SHOW on an idle Strip with the channel ready and the start attempt answered S_OK: the engine starts at slot 0, the
Strip is BUSY with cursor 2 whatever the pixel count, the four actions are emitted in order, the answer is OK, and
besides the staged Transfer Buffer nothing else changes (R176, R180, R195). -/
def Obligations.ShowStartsTransfer : Prop :=
  ∀ s : State, s.inited = true → s.flt = false → s.n ≠ 0#16 → s.held = false → s.cur = 0#17 → s.chReady = true →
    s.startResult = .ok →
    ∃ t, exec .showStrip s = .next t ∧
      t = { s with
        tb := t.tb, readyIn := s.readyIn.tail, startIn := s.startIn.tail
        act := true, rd := 0, st := .busy, cur := 2#17
        hal := s.hal ++ [.armNotify, .start, .outEnable, .counterEnable]
        resp := s.resp ++ [.ok] }

/-- SHOW on an idle Strip with the channel ready and the start attempt answered S_ERR: the fault mark is set, the answer
is HW_ERR, nothing is rolled back (the two actions stay; the staged slots are those of `ShowStagesFirstPixels`) and
nothing else changes; every command other than INIT is then refused, and every notification is ignored (R181; 10_state.md
R33). -/
def Obligations.ShowHardwareErrorMarksStrip : Prop :=
  ∀ s : State, s.inited = true → s.flt = false → s.n ≠ 0#16 → s.held = false → s.cur = 0#17 → s.chReady = true →
    s.startResult = .err →
    ∃ t, exec .showStrip s = .next t ∧
      t = { s with
        tb := t.tb, readyIn := s.readyIn.tail, startIn := s.startIn.tail
        flt := true, hal := s.hal ++ [.armNotify, .start], resp := s.resp ++ [.hwErr] } ∧
      (∀ i, i.isEvent = false → (∀ sel hid gam n, i ≠ .init sel hid gam n) → exec i t = .refused .needsReinit) ∧
      ∀ i, i.isEvent = true → exec i t = .next t

/-- The start loop: a first attempt answered S_BUSY leaves SHOW held without an answer; each further round emits one
`A_START` and either starts the transfer, ends in a hardware error, or stays held (R179; the hold between rounds is
assumption log 8). -/
def Obligations.ShowRetriesUntilAnswered : Prop :=
  ∀ s : State, s.inited = true → s.flt = false → s.n ≠ 0#16 →
    (s.held = false → s.cur = 0#17 → s.chReady = true → s.startResult = .busy →
      ∃ t, exec .showStrip s = .next t ∧
        t = { s with
          tb := t.tb, readyIn := s.readyIn.tail, startIn := s.startIn.tail
          hal := s.hal ++ [.armNotify, .start], held := true }) ∧
    (s.held = true → s.startResult = .busy →
      exec .showStrip s = .next { s with startIn := s.startIn.tail, hal := s.hal ++ [.start] }) ∧
    (s.held = true → s.startResult = .ok →
      exec .showStrip s = .next { s with
        startIn := s.startIn.tail, held := false
        act := true, rd := 0, st := .busy, cur := 2#17
        hal := s.hal ++ [.start, .outEnable, .counterEnable], resp := s.resp ++ [.ok] }) ∧
    (s.held = true → s.startResult = .err →
      exec .showStrip s = .next { s with
        startIn := s.startIn.tail, held := false, flt := true
        hal := s.hal ++ [.start], resp := s.resp ++ [.hwErr] })

/-! ### The handlers (43_streaming_engine.md R182 to R186) -/

/-- A handler whose event comes from a foreign handle, or arrives while the cursor is 0 or before INIT, changes nothing
(R182). -/
def Obligations.UnacceptedNotificationIgnored : Prop :=
  ∀ (s : State) (e : Byte), (s.inited = false ∨ e ≠ s.hid ∨ s.cur = 0#17) →
    exec (.ht e) s = .next s ∧ exec (.tc e) s = .next s ∧ exec (.err e) s = .next s

/-- HT once its guards pass: in the data phase the expansion of the cursor's pixel goes to slots 0 to 23 and the cursor
advances; in the reset phase those slots become 0 and the cursor stays; from `n + 2` on nothing happens. Nothing else
changes, slots 24 to 47 among it (R183). That a byte the caller has overwritten during the show counts as any value it
held during the show is the model's choice among the treatments of 93_implementation_defined.md U1 (assumption log
9). -/
def Obligations.HtRefillsFirstHalf : Prop :=
  ∀ s : State, s.inited = true → s.cur ≠ 0#17 →
    (s.cur.toNat < s.n.toNat →
      ∃ (t : State) (byte : Nat → Byte), exec (.ht s.hid) s = .next t ∧
        t = { s with tb := t.tb, cur := s.cur + 1#17 } ∧ t.cur.toNat = s.cur.toNat + 1 ∧
        (∀ k, k < 3 → byte k = s.pbRead (3 * s.cur.toNat + k) ∨ byte k ∈ s.overwritten (3 * s.cur.toNat + k)) ∧
        (∀ k i, k < 3 → i < 8 → t.tbRead (8 * k + i) = if (byte k).getLsbD (7 - i) then s.hi else s.lo) ∧
        ∀ j, 24 ≤ j → t.tbRead j = s.tbRead j) ∧
    (s.n.toNat ≤ s.cur.toNat → s.cur.toNat < s.n.toNat + 2 →
      ∃ t, exec (.ht s.hid) s = .next t ∧ t = { s with tb := t.tb } ∧
        (∀ j, j < 24 → t.tbRead j = 0) ∧ ∀ j, 24 ≤ j → t.tbRead j = s.tbRead j) ∧
    (s.n.toNat + 2 ≤ s.cur.toNat → exec (.ht s.hid) s = .next s)

/-- TC once its guards pass: in the data phase the expansion of the cursor's pixel goes to slots 24 to 47 and the cursor
advances; in the reset phase those slots become 0 and the cursor advances; from `n + 2` on the show is shut down.
Nothing else changes, slots 0 to 23 among it (R184). That a byte the caller has overwritten during the show counts as any
value it held during the show is the model's choice among the treatments of 93_implementation_defined.md U1 (assumption
log 9). -/
def Obligations.TcRefillsSecondHalf : Prop :=
  ∀ s : State, s.inited = true → s.cur ≠ 0#17 →
    (s.cur.toNat < s.n.toNat →
      ∃ (t : State) (byte : Nat → Byte), exec (.tc s.hid) s = .next t ∧
        t = { s with tb := t.tb, cur := s.cur + 1#17 } ∧ t.cur.toNat = s.cur.toNat + 1 ∧
        (∀ k, k < 3 → byte k = s.pbRead (3 * s.cur.toNat + k) ∨ byte k ∈ s.overwritten (3 * s.cur.toNat + k)) ∧
        (∀ k i, k < 3 → i < 8 → t.tbRead (24 + 8 * k + i) = if (byte k).getLsbD (7 - i) then s.hi else s.lo) ∧
        ∀ j, (j < 24 ∨ 48 ≤ j) → t.tbRead j = s.tbRead j) ∧
    (s.n.toNat ≤ s.cur.toNat → s.cur.toNat < s.n.toNat + 2 →
      ∃ t, exec (.tc s.hid) s = .next t ∧
        t = { s with tb := t.tb, cur := s.cur + 1#17 } ∧ t.cur.toNat = s.cur.toNat + 1 ∧
        (∀ j, 24 ≤ j → j < 48 → t.tbRead j = 0) ∧
        ∀ j, (j < 24 ∨ 48 ≤ j) → t.tbRead j = s.tbRead j) ∧
    (s.n.toNat + 2 ≤ s.cur.toNat → exec (.tc s.hid) s = .next s.shutdown)

/-- The TC that finds the cursor at `n + 2` ends the show: the actions of SHUTDOWN in order, with the main-output disable
only on a break-capable timer, the transfer inactive, cursor 0 and READY; no slot is written and nothing else changes
(R185). That the race record is emptied is the model's choice (assumption log 9). -/
def Obligations.TerminalTcShutsDown : Prop :=
  ∀ s : State, s.inited = true → s.cur ≠ 0#17 → s.n.toNat + 2 ≤ s.cur.toNat →
    exec (.tc s.hid) s = .next { s with
      hal := s.hal ++ (if s.cfg.breakCapable
        then [.dmaRequestDisable, .abort, .mainOutputDisable, .counterDisable]
        else [.dmaRequestDisable, .abort, .counterDisable])
      act := false, cur := 0#17, st := .ready, old := [] }

/-- An accepted error notification marks the Strip faulted and changes nothing else (R186). -/
def Obligations.ErrMarksFaultOnly : Prop :=
  ∀ s : State, s.inited = true → s.cur ≠ 0#17 → exec (.err s.hid) s = .next { s with flt := true }

/-- How each operation moves the Fill Cursor: the table of 10_state.md R29. -/
def Obligations.CursorMovesAsTabled : Prop :=
  ∀ (s t : State) (i : Instr), exec i s = .next t →
    match i with
    | .init _ _ _ _ =>
        (t.resp = s.resp ++ [.ok] → t.cur = 0#17) ∧ (t.resp = s.resp ++ [.paramErr] → t.cur = s.cur)
    | .showStrip => t.cur = if t.resp = s.resp ++ [.ok] then 2#17 else s.cur
    | .ht e =>
        if s.inited = true ∧ e = s.hid ∧ s.cur ≠ 0#17 ∧ s.cur.toNat < s.n.toNat
        then t.cur.toNat = s.cur.toNat + 1 else t.cur = s.cur
    | .tc e =>
        if s.inited = true ∧ e = s.hid ∧ s.cur ≠ 0#17 then
          if s.cur.toNat < s.n.toNat + 2 then t.cur.toNat = s.cur.toNat + 1 else t.cur = 0#17
        else t.cur = s.cur
    | .setpix _ _ _ _ => t.cur = s.cur
    | .fill _ _ _ => t.cur = s.cur
    | .setbr _ => t.cur = s.cur
    | .queryState => t.cur = s.cur
    | .err _ => t.cur = s.cur

/-! ### The transfer engine (43_streaming_engine.md R195 to R200) -/

/-- One DRAIN step of an active engine with no accepted error notification hands the slot at `rd` to the timer as it
stands, advances `rd` modulo 48, posts HT on reaching slot 24 and TC on wrapping to 0, and changes nothing else: neither
a waiting notification nor a refill in progress alters it (R196; what a missed deadline does to the slot is
`DrainDuringRefillHandsOverOldOrNew`). -/
def Obligations.DrainHandsOverOneSlot : Prop :=
  ∀ s : State, s.nextTurn = .drain → s.act = true → s.flt = false →
    ∃ t, step s = .next t ∧
      t = { s with
        turns := s.turns.tail, draws := s.draws + 1
        tx := s.tx ++ [s.tbRead s.rd.val], rd := t.rd
        pend := s.pend ++ (if s.rd.val = 23 then [BitVec.ofNat 16 (0x0100 + s.hid.toNat)] else
          if s.rd.val = 47 then [BitVec.ofNat 16 (0x0200 + s.hid.toNat)] else []) } ∧
      t.rd.val = (s.rd.val + 1) % 48

/-- After an accepted error notification a DRAIN step of an active engine still hands over exactly one value of CMP_W
bits, advances and posts as always, and changes nothing else; which value is open (93_implementation_defined.md U7;
that the run goes on with a free value is the model's choice, assumption log 11). -/
def Obligations.DrainAfterErrHandsOverSomeValue : Prop :=
  ∀ s : State, s.nextTurn = .drain → s.act = true → s.flt = true →
    ∃ (t : State) (v : Nat), step s = .next t ∧ v < 2 ^ s.cfg.cntW ∧
      t = { s with
        turns := s.turns.tail, draws := s.draws + 1, tx := s.tx ++ [v], rd := t.rd
        pend := s.pend ++ (if s.rd.val = 23 then [BitVec.ofNat 16 (0x0100 + s.hid.toNat)] else
          if s.rd.val = 47 then [BitVec.ofNat 16 (0x0200 + s.hid.toNat)] else []) } ∧
      t.rd.val = (s.rd.val + 1) % 48

/-- While a refill is in progress the thread's moves, whichever of them comes, make one slot write each, in ascending
order; with the last write the handler ends, advancing the cursor if it is a handler's branch that advances it. A
queued command word waits (20_memory.md R68; 42_bit_encoder.md R162; the form of the moves is assumption log 10). -/
def Obligations.RefillWritesOneSlotPerMove : Prop :=
  ∀ (s : State) (slot v : Nat) (vs : List Nat) (adv : Bool), s.refill = some ⟨slot, v :: vs, adv⟩ →
    ((∃ w, s.nextTurn = .command w) ∨ s.nextTurn = .retry ∨ s.nextTurn = .handle ∨ s.nextTurn = .beginHandler) →
    ∃ t, step s = .next t ∧
      t = { s with turns := t.turns, draws := s.draws + 1, tb := t.tb, cur := t.cur, refill := t.refill } ∧
      ((∃ w, s.nextTurn = .command w) → t.turns = s.turns) ∧
      ((∀ w, s.nextTurn ≠ .command w) → t.turns = s.turns.tail) ∧
      (∀ j, t.tbRead j = if j = slot then v else s.tbRead j) ∧
      (vs ≠ [] → t.refill = some ⟨slot + 1, vs, adv⟩ ∧ t.cur = s.cur) ∧
      (vs = [] → t.refill = none ∧ t.cur = if adv then s.cur + 1#17 else s.cur)

/-- A refill made slot by slot, with no other agent moving in between, is the refill of the handler rule: beginning it
and making its 24 slot writes leads to the state that the whole handler leads to, but for the count of steps
(00_scope.md R13 and 20_memory.md R68 agree on an undisturbed handler). -/
def Obligations.RefillInStepsIsTheHandler : Prop :=
  ∀ (s : State) (e : EventWord) (es : List EventWord) (rest : List Turn) (t : State),
    s.refill = none → s.pend = e :: es → (e = eventWord 0x01 s.hid ∨ e = eventWord 0x02 s.hid) →
    s.inited = true → s.cur ≠ 0#17 → s.cur.toNat < s.n.toNat + 2 →
    step { s with turns := .handle :: rest } = .next t →
    Host.Core.run Sys2Proof.core 25 { s with turns := .beginHandler :: (List.replicate 24 Turn.handle ++ rest) } =
      .next { t with draws := t.draws + 24 }

/-- A missed deadline: a DRAIN step that falls after `k` of the 24 slot writes of a handler's refill hands over the new
value of a slot already written, the value that the whole handler gives it, and the old value of every other slot, and
it leaves the handler where it was (20_memory.md R68; 93_implementation_defined.md U2; the form of the moves is
assumption log 10). -/
def Obligations.DrainDuringRefillHandsOverOldOrNew : Prop :=
  ∀ (s : State) (kind : Byte) (base k : Nat) (es : List EventWord) (rest : List Turn) (t : State),
    ((kind = 0x01#8 ∧ base = 0) ∨ (kind = 0x02#8 ∧ base = 24)) → k < 24 →
    s.refill = none → s.pend = eventWord kind s.hid :: es → s.inited = true → s.cur ≠ 0#17 →
    s.cur.toNat < s.n.toNat + 2 → s.act = true → s.flt = false →
    step { s with turns := .handle :: rest } = .next t →
    ∃ u, Host.Core.run Sys2Proof.core (k + 2)
        { s with turns := .beginHandler :: (List.replicate k Turn.handle ++ .drain :: rest) } = .next u ∧
      u.tx = s.tx ++ [if base ≤ s.rd.val ∧ s.rd.val < base + k then t.tbRead s.rd.val else s.tbRead s.rd.val] ∧
      (∀ j, u.tbRead j = if base ≤ j ∧ j < base + k then t.tbRead j else s.tbRead j) ∧
      u.cur = s.cur ∧ u.refill.isSome = true

/-- Twenty-four DRAIN steps from the start of a half transmit the half in slot order and post exactly the notification of
its end: HT after the first half, TC after the second (R196, R197). -/
def Obligations.HalfDrainPostsOneNotification : Prop :=
  ∀ (s : State) (rest : List Turn) (kind : Byte),
    s.turns = List.replicate 24 Turn.drain ++ rest → s.act = true → s.flt = false →
    ((s.rd.val = 0 ∧ kind = 0x01#8) ∨ (s.rd.val = 24 ∧ kind = 0x02#8)) →
    ∃ t, Host.Core.run Sys2Proof.core 24 s = .next t ∧
      t = { s with
        turns := rest, draws := s.draws + 24
        tx := s.tx ++ (List.range 24).map (fun i => s.tbRead (s.rd.val + i))
        rd := t.rd, pend := s.pend ++ [eventWord kind s.hid] } ∧
      t.rd.val = (s.rd.val + 24) % 48

/-- What one show transmits, for every pixel count: from an idle, initialised Strip with an empty event queue, a SHOW
that starts at once, followed by the nominal schedule for `n + 3` halves (odd `n`) or `n + 4` halves (even `n`),
appends every pixel's 24 values in order and then three or four zeroed halves, and ends READY with cursor 0, the
transfer stopped, no event pending, and the Pixel Buffer and the Strip's other registers as before (R200). -/
def Obligations.ShowTransmitsWholeFrame : Prop :=
  ∀ (s : State) (rest : List Turn) (halves : Nat),
    s.inited = true → s.flt = false → s.n ≠ 0#16 → s.held = false → s.cur = 0#17 → s.pend = [] → s.old = [] →
    s.refill = none →
    s.popTurn.chReady = true → s.popTurn.startResult = .ok →
    halves = s.n.toNat + zeroHalves s.n.toNat →
    s.turns = .command 0x0500000000000000 :: (nominalTurns halves ++ rest) →
    ∃ t, Host.Core.run Sys2Proof.core (1 + 25 * halves) s = .next t ∧
      t.tx = s.tx ++ s.frame ∧ t.st = .ready ∧ t.cur = 0#17 ∧ t.act = false ∧ t.pend = [] ∧ t.turns = rest ∧
      t.pb = s.pb ∧ t.n = s.n ∧ t.br = s.br ∧ t.gam = s.gam ∧ t.per = s.per ∧ t.hi = s.hi ∧ t.lo = s.lo ∧
      t.hid = s.hid ∧ t.inited = true ∧ t.flt = false ∧ t.resp = s.resp ++ [.ok] ∧
      ∀ i, i < 48 → t.tbRead i = 0

/-! ### The query (44_state_query.md) -/

/-- STATE on a usable Strip answers `st` and changes nothing else (R220). -/
def Obligations.StateAnswersStripState : Prop :=
  ∀ s : State, s.inited = true → s.flt = false →
    (s.st = .busy → exec .queryState s = .next { s with resp := s.resp ++ [.busy] }) ∧
    (s.st = .ready → exec .queryState s = .next { s with resp := s.resp ++ [.ready] })

/-! ### Where commands stop (93_implementation_defined.md) -/

/-- Every command but INIT is refused on an uninitialised Strip and, under another name, on a faulted one
(10_state.md R32, R33; U3, U4). -/
def Obligations.CommandsNeedUsableStrip : Prop :=
  ∀ (s : State) (i : Instr), i.isEvent = false → (∀ sel hid gam n, i ≠ .init sel hid gam n) →
    (s.inited = false → exec i s = .refused .notInitialised) ∧
    (s.inited = true → s.flt = true → exec i s = .refused .needsReinit)

/-- SETPIX and SHOW on a usable Strip with no pixels, a state that 10_state.md R21 excludes, fault; the model's choice,
assumption log 13. -/
def Obligations.EmptyStripFaults : Prop :=
  ∀ (s : State) (idx : Count) (r g b : Byte), s.inited = true → s.flt = false → s.n = 0#16 →
    exec (.setpix idx r g b) s = .fault .emptyStrip ∧ exec .showStrip s = .fault .emptyStrip

/-! ### The whole machine -/

/-- Power-on: `inited`, `flt` and `act` are 0, and the event queue and the traces `hal` and `tx` are empty
(10_state.md R44). -/
def Obligations.ResetIsPowerOn : Prop :=
  State.reset.inited = false ∧ State.reset.flt = false ∧ State.reset.act = false ∧
  State.reset.pend = [] ∧ State.reset.hal = [] ∧ State.reset.tx = []

/-- The invariant of Safety.lean holds at power-on. -/
def Obligations.InvariantHoldsAtReset : Prop := State.reset.Inv

/-- Every step from a state that meets the invariant leads to a state that meets it: register domains, the tie between
`st`, `cur` and `act`, both memories canonical and within their bounds, only `hi`, `lo` and 0 in the Transfer Buffer,
all of it written while a transfer is active, and a refill in progress only inside a show and within a half
(10_state.md R20, R30, R36, R39; 40_timing_calculator.md R125). -/
def Obligations.StepKeepsInvariant : Prop :=
  ∀ s t : State, s.Inv → step s = .next t → t.Inv

/-- From a state that meets the invariant no step faults (20_memory.md R62: there is no access fault in the block). -/
def Obligations.NoFaultUnderInvariant : Prop :=
  ∀ (s : State) (f : Fault), s.Inv → step s ≠ .fault f

/-- No operation other than INIT resets anything: the pixel count, the gamma flag, the period, the thresholds, the bound
identity and `inited` keep their values under every other operation, the brightness under every one but SETBR, and
the Pixel Buffer under every one but SETPIX and FILL (70_reset_and_hazards.md R271). -/
def Obligations.OnlyInitRebinds : Prop :=
  ∀ (s t : State) (i : Instr), (∀ sel hid gam n, i ≠ .init sel hid gam n) → exec i s = .next t →
    t.n = s.n ∧ t.gam = s.gam ∧ t.per = s.per ∧ t.hi = s.hi ∧ t.lo = s.lo ∧ t.hid = s.hid ∧ t.inited = s.inited ∧
    ((∀ v, i ≠ .setbr v) → t.br = s.br) ∧
    ((∀ idx r g b, i ≠ .setpix idx r g b) → (∀ r g b, i ≠ .fill r g b) → t.pb = s.pb ∧ t.epoch = s.epoch)

/-- Who may touch the Transfer Buffer and the event queue: no host command but SHOW and INIT changes a slot, no operation
touches the event queue or `tx`, and no handler answers on the command port (60_exceptions.md R239; 10_state.md
R46). -/
def Obligations.OperationsKeepToTheirState : Prop :=
  ∀ (s t : State) (i : Instr), exec i s = .next t →
    t.pend = s.pend ∧ t.tx = s.tx ∧ t.cfg = s.cfg ∧ t.clk = s.clk ∧ t.turns = s.turns ∧ t.draws = s.draws ∧
    t.refill = s.refill ∧
    (i.isEvent = false → i ≠ .showStrip → (∀ sel hid gam n, i ≠ .init sel hid gam n) →
      t.tb = s.tb ∧ t.cur = s.cur ∧ t.st = s.st ∧ t.act = s.act ∧ t.rd = s.rd ∧ t.hal = s.hal ∧ t.flt = s.flt) ∧
    (i.isEvent = true → t.resp = s.resp ∧ t.pb = s.pb ∧ t.rd = s.rd ∧ t.br = s.br)

/-- The streaming engine never reads the brightness: SHOW, HT, TC, ERR and STATE do the same whatever it is
(10_state.md R22; 41_pixel_buffer.md R144). -/
def Obligations.BrightnessDoesNotReachTheStream : Prop :=
  ∀ (s : State) (v : Byte) (i : Instr), (i = .showStrip ∨ i = .queryState ∨ i.isEvent = true) →
    exec i { s with br := v } =
      match exec i s with
      | .next t => .next { t with br := v }
      | .fault f => .fault f
      | .refused r => .refused r

/-- What a step appends to the traces `hal`, `tx` and `resp` comes after what was there, and the implementation's
parameters never change. That the answers are kept as a trace, and that `tx` is never emptied where 10_state.md R42 lets
a model empty it at a SHOW, are the model's choice (assumption log 17), and so is that the parameters stand in the state
(assumption log 5). -/
def Obligations.TracesOnlyGrow : Prop :=
  ∀ s t : State, step s = .next t →
    s.hal <+: t.hal ∧ s.tx <+: t.tx ∧ s.resp <+: t.resp ∧ t.cfg = s.cfg
end

