-- ==== Sys2Proof/Laws/Bits.lean ====
section
/-! SUPPORT. Fields of words as arithmetic on naturals, so that an encoding's fields are read by division and remainder;
and when a masked word equals a row's pattern. -/

namespace Sys2Proof

@[simp] theorem ofBool_toNat (b : Bool) : (BitVec.ofBool b).toNat = b.toNat := by cases b <;> rfl

/-- A field is a quotient and a remainder of its word (00_scope.md R11). -/
theorem bits_toNat {w : Nat} (x : BitVec w) (lo len : Nat) : (bits x lo len).toNat = x.toNat / 2 ^ lo % 2 ^ len := by
  simp [bits, Nat.shiftRight_eq_div_pow]

theorem bits_eq_iff {w : Nat} (x : BitVec w) (lo len : Nat) (v : BitVec len) :
    bits x lo len = v ↔ x.toNat / 2 ^ lo % 2 ^ len = v.toNat := by
  rw [← BitVec.toNat_inj, bits_toNat]

/-- One bit is a quotient modulo 2. -/
theorem getLsbD_eq_iff {w : Nat} (x : BitVec w) (i : Nat) (b : Bool) :
    x.getLsbD i = b ↔ x.toNat / 2 ^ i % 2 = b.toNat := by
  rw [BitVec.getLsbD, Nat.testBit_eq_decide_div_mod_eq]
  cases b <;> simp

/-- A word belongs to a row if every bit of the mask is as the row's pattern has it. -/
theorem and_eq_pattern_of_bits {w : Nat} {x mask pattern : BitVec w} (hp : pattern &&& mask = pattern)
    (h : ∀ i, i < w → mask.getLsbD i = true → x.toNat / 2 ^ i % 2 = (pattern.getLsbD i).toNat) :
    x &&& mask = pattern := by
  rw [← hp]
  apply BitVec.eq_of_getLsbD_eq
  intro i hi
  rw [BitVec.getLsbD_and, BitVec.getLsbD_and]
  cases hm : mask.getLsbD i
  · simp
  · rw [(getLsbD_eq_iff x i (pattern.getLsbD i)).2 (h i hi hm)]

end Sys2Proof
end

