-- ==== Sys2Proof/Laws/Memory.lean ====
section
/-! SUPPORT. The laws of the memories: a read after a write, what a write leaves alone, and that every write keeps the
canonical form. -/

namespace Sys2Proof.Machine

variable {α : Type}

@[simp] theorem Memory.read_nil (a : Nat) : Memory.read ([] : Memory α) a = none := rfl

theorem Memory.read_cons (p : Nat × α) (m : Memory α) (a : Nat) :
    Memory.read (p :: m) a = if p.1 = a then some p.2 else Memory.read m a := rfl

/-- A read after a write gives the value written at its address and the old value everywhere else. -/
theorem Memory.read_write (m : Memory α) (a : Nat) (v : α) (b : Nat) :
    Memory.read (Memory.write m a v) b = if b = a then some v else Memory.read m b := by
  induction m with
  | nil => by_cases h : a = b <;> simp [Memory.write, Memory.read_cons, h, eq_comm]
  | cons p m ih =>
    obtain ⟨c, w⟩ := p
    simp only [Memory.write]
    split_ifs with hlt heq <;> simp only [Memory.read_cons, ih]
    all_goals split_ifs <;> first | rfl | omega

@[simp] theorem Memory.read_write_same (m : Memory α) (a : Nat) (v : α) :
    Memory.read (Memory.write m a v) a = some v := by
  simp [Memory.read_write]

theorem Memory.read_write_other (m : Memory α) (v : α) {a b : Nat} (h : b ≠ a) :
    Memory.read (Memory.write m a v) b = Memory.read m b := by
  simp [Memory.read_write, h]

/-- What a write can put into the list: its own entry, beside those there before. -/
theorem Memory.mem_write {m : Memory α} {a : Nat} {v : α} {p : Nat × α} (h : p ∈ Memory.write m a v) :
    p = (a, v) ∨ p ∈ m := by
  induction m with
  | nil => simpa [Memory.write] using h
  | cons q m ih =>
    simp only [Memory.write] at h
    split_ifs at h with hlt heq
    · simpa using h
    · rcases List.mem_cons.1 h with h | h
      · exact .inl h
      · exact .inr (List.mem_cons_of_mem _ h)
    · rcases List.mem_cons.1 h with h | h
      · exact .inr (h ▸ List.mem_cons_self)
      · exact (ih h).imp_right (List.mem_cons_of_mem _)

/-- A write keeps the canonical form. -/
theorem Memory.write_wf {m : Memory α} (h : Memory.wf m) (a : Nat) (v : α) : Memory.wf (Memory.write m a v) := by
  induction m with
  | nil => simp [Memory.write, Memory.wf]
  | cons p m ih =>
    obtain ⟨hhead, htail⟩ := List.pairwise_cons.1 h
    have hpair : ∀ q ∈ m, p.1 < q.1 := fun q hq => hhead _ (List.mem_map_of_mem hq)
    simp only [Memory.write]
    split_ifs with hlt heq
    · refine List.pairwise_cons.2 ⟨?_, h⟩
      simp only [List.mem_map]
      rintro x ⟨q, hq, rfl⟩
      rcases List.mem_cons.1 hq with rfl | hq
      · exact hlt
      · exact hlt.trans (hpair q hq)
    · refine List.pairwise_cons.2 ⟨?_, htail⟩
      simpa [heq] using hhead
    · refine List.pairwise_cons.2 ⟨?_, ih htail⟩
      simp only [List.mem_map]
      rintro x ⟨q, hq, rfl⟩
      rcases Memory.mem_write hq with rfl | hq
      · exact Nat.lt_of_le_of_ne (Nat.le_of_not_lt hlt) (Ne.symm heq)
      · exact hpair q hq

/-- A read after consecutive writes. -/
theorem Memory.read_writeFrom (vs : List α) : ∀ (m : Memory α) (a b : Nat),
    Memory.read (Memory.writeFrom m a vs) b =
      if a ≤ b ∧ b < a + vs.length then vs[b - a]? else Memory.read m b := by
  induction vs with
  | nil => intro m a b; simp [Memory.writeFrom]
  | cons v vs ih =>
    intro m a b
    simp only [Memory.writeFrom, ih, Memory.read_write, List.length_cons]
    by_cases hb : b = a
    · subst hb; simp
    · by_cases hle : a + 1 ≤ b
      · have hsub : b - a = (b - (a + 1)) + 1 := by omega
        by_cases hlt : b < a + 1 + vs.length
        · rw [if_pos ⟨hle, hlt⟩, if_pos (by omega), hsub, List.getElem?_cons_succ]
        · rw [if_neg (by omega), if_neg hb, if_neg (by omega)]
      · rw [if_neg (by omega), if_neg hb, if_neg (by omega)]

/-- What consecutive writes can put into the list. -/
theorem Memory.mem_writeFrom (vs : List α) : ∀ {m : Memory α} {a : Nat} {p : Nat × α},
    p ∈ Memory.writeFrom m a vs → (a ≤ p.1 ∧ p.1 < a + vs.length ∧ p.2 ∈ vs) ∨ p ∈ m := by
  induction vs with
  | nil => intro m a p h; exact .inr h
  | cons v vs ih =>
    intro m a p h
    rcases ih h with ⟨h1, h2, h3⟩ | h
    · refine .inl ⟨by omega, ?_, List.mem_cons_of_mem _ h3⟩
      simp only [List.length_cons]; omega
    · rcases Memory.mem_write h with rfl | h
      · exact .inl ⟨le_refl _, by simp, List.mem_cons_self⟩
      · exact .inr h

/-- Consecutive writes keep the canonical form. -/
theorem Memory.writeFrom_wf (vs : List α) : ∀ {m : Memory α}, Memory.wf m → ∀ a, Memory.wf (Memory.writeFrom m a vs) := by
  induction vs with
  | nil => intro m h a; exact h
  | cons v vs ih => intro m h a; exact ih (Memory.write_wf h a v) (a + 1)

/-- The memories of the power-on state are in canonical form. -/
theorem Memory.reset_wf : Memory.wf State.reset.pb ∧ Memory.wf State.reset.tb := by decide

/-! ### The Pixel Buffer and the Transfer Buffer -/

/-- A Pixel Buffer read after a store (20_memory.md R62). -/
theorem State.pbRead_pbWrite (s : State) (a : Nat) (v : Byte) (b : Nat) :
    (s.pbWrite a v).pbRead b = if b = a then v else s.pbRead b := by
  simp only [State.pbRead, State.pbWrite, Memory.read_write]
  split_ifs <;> simp

/-- A Transfer Buffer read after stores to consecutive slots (20_memory.md R64). -/
theorem State.tbRead_tbWriteFrom (s : State) (i : Nat) (vs : List Nat) (j : Nat) :
    (s.tbWriteFrom i vs).tbRead j = if i ≤ j ∧ j < i + vs.length then vs.getD (j - i) 0 else s.tbRead j := by
  simp only [State.tbRead, State.tbWriteFrom, Memory.read_writeFrom]
  split_ifs with h
  · have : j - i < vs.length := by omega
    simp [List.getD_eq_getElem?_getD, List.getElem?_eq_getElem this]
  · rfl

/-- A handler's racing read finds the byte or a value it held earlier in the show (93_implementation_defined.md U1). -/
theorem State.pbReadRacing_cases (s : State) (a : Nat) :
    s.pbReadRacing a = s.pbRead a ∨ s.pbReadRacing a ∈ s.overwritten a := by
  unfold State.pbReadRacing
  split
  · exact .inl rfl
  · rename_i v vs heq
    have hlt : Config.freeRace s.draws a % (vs.length + 2) < (s.pbRead a :: v :: vs).length :=
      Nat.mod_lt _ (Nat.succ_pos _)
    rw [List.getD_eq_getElem?_getD, List.getElem?_eq_getElem hlt, Option.getD_some]
    have hmem := List.getElem_mem hlt
    rw [heq]
    exact List.mem_cons.1 hmem

/-- A byte that the caller has not written during the show is read as it is. -/
theorem State.pbReadRacing_quiet (s : State) (a : Nat) (h : s.overwritten a = []) :
    s.pbReadRacing a = s.pbRead a := by
  simp [State.pbReadRacing, h]

end Sys2Proof.Machine
end

