-- ==== Sys2Proof/Laws/State.lean ====
section
/-! SUPPORT. For each state update, one lemma for each field: what the field holds after it. -/

namespace Sys2Proof.Machine

variable (s : State)

/-! ### After a Pixel Buffer store -/

@[simp] theorem State.pbWrite_n (a : Nat) (v : Byte) : (s.pbWrite a v).n = s.n := rfl
@[simp] theorem State.pbWrite_br (a : Nat) (v : Byte) : (s.pbWrite a v).br = s.br := rfl
@[simp] theorem State.pbWrite_gam (a : Nat) (v : Byte) : (s.pbWrite a v).gam = s.gam := rfl
@[simp] theorem State.pbWrite_per (a : Nat) (v : Byte) : (s.pbWrite a v).per = s.per := rfl
@[simp] theorem State.pbWrite_hi (a : Nat) (v : Byte) : (s.pbWrite a v).hi = s.hi := rfl
@[simp] theorem State.pbWrite_lo (a : Nat) (v : Byte) : (s.pbWrite a v).lo = s.lo := rfl
@[simp] theorem State.pbWrite_st (a : Nat) (v : Byte) : (s.pbWrite a v).st = s.st := rfl
@[simp] theorem State.pbWrite_cur (a : Nat) (v : Byte) : (s.pbWrite a v).cur = s.cur := rfl
@[simp] theorem State.pbWrite_hid (a : Nat) (v : Byte) : (s.pbWrite a v).hid = s.hid := rfl
@[simp] theorem State.pbWrite_inited (a : Nat) (v : Byte) : (s.pbWrite a v).inited = s.inited := rfl
@[simp] theorem State.pbWrite_flt (a : Nat) (v : Byte) : (s.pbWrite a v).flt = s.flt := rfl
@[simp] theorem State.pbWrite_pb (a : Nat) (v : Byte) : (s.pbWrite a v).pb = Memory.write s.pb a v := rfl
@[simp] theorem State.pbWrite_tb (a : Nat) (v : Byte) : (s.pbWrite a v).tb = s.tb := rfl
@[simp] theorem State.pbWrite_rd (a : Nat) (v : Byte) : (s.pbWrite a v).rd = s.rd := rfl
@[simp] theorem State.pbWrite_act (a : Nat) (v : Byte) : (s.pbWrite a v).act = s.act := rfl
@[simp] theorem State.pbWrite_pend (a : Nat) (v : Byte) : (s.pbWrite a v).pend = s.pend := rfl
@[simp] theorem State.pbWrite_hal (a : Nat) (v : Byte) : (s.pbWrite a v).hal = s.hal := rfl
@[simp] theorem State.pbWrite_tx (a : Nat) (v : Byte) : (s.pbWrite a v).tx = s.tx := rfl
@[simp] theorem State.pbWrite_resp (a : Nat) (v : Byte) : (s.pbWrite a v).resp = s.resp := rfl
@[simp] theorem State.pbWrite_cfg (a : Nat) (v : Byte) : (s.pbWrite a v).cfg = s.cfg := rfl
@[simp] theorem State.pbWrite_clk (a : Nat) (v : Byte) : (s.pbWrite a v).clk = s.clk := rfl
@[simp] theorem State.pbWrite_readyIn (a : Nat) (v : Byte) : (s.pbWrite a v).readyIn = s.readyIn := rfl
@[simp] theorem State.pbWrite_startIn (a : Nat) (v : Byte) : (s.pbWrite a v).startIn = s.startIn := rfl
@[simp] theorem State.pbWrite_turns (a : Nat) (v : Byte) : (s.pbWrite a v).turns = s.turns := rfl
@[simp] theorem State.pbWrite_held (a : Nat) (v : Byte) : (s.pbWrite a v).held = s.held := rfl
@[simp] theorem State.pbWrite_refill (a : Nat) (v : Byte) : (s.pbWrite a v).refill = s.refill := rfl
@[simp] theorem State.pbWrite_old (a : Nat) (v : Byte) : (s.pbWrite a v).old = if s.st = .busy then (a, s.pbRead a) :: s.old else s.old := rfl
@[simp] theorem State.pbWrite_epoch (a : Nat) (v : Byte) : (s.pbWrite a v).epoch = s.epoch := rfl
@[simp] theorem State.pbWrite_draws (a : Nat) (v : Byte) : (s.pbWrite a v).draws = s.draws := rfl

/-! ### After stores to consecutive Transfer Buffer slots -/

@[simp] theorem State.tbWriteFrom_n (i : Nat) (vs : List Nat) : (s.tbWriteFrom i vs).n = s.n := rfl
@[simp] theorem State.tbWriteFrom_br (i : Nat) (vs : List Nat) : (s.tbWriteFrom i vs).br = s.br := rfl
@[simp] theorem State.tbWriteFrom_gam (i : Nat) (vs : List Nat) : (s.tbWriteFrom i vs).gam = s.gam := rfl
@[simp] theorem State.tbWriteFrom_per (i : Nat) (vs : List Nat) : (s.tbWriteFrom i vs).per = s.per := rfl
@[simp] theorem State.tbWriteFrom_hi (i : Nat) (vs : List Nat) : (s.tbWriteFrom i vs).hi = s.hi := rfl
@[simp] theorem State.tbWriteFrom_lo (i : Nat) (vs : List Nat) : (s.tbWriteFrom i vs).lo = s.lo := rfl
@[simp] theorem State.tbWriteFrom_st (i : Nat) (vs : List Nat) : (s.tbWriteFrom i vs).st = s.st := rfl
@[simp] theorem State.tbWriteFrom_cur (i : Nat) (vs : List Nat) : (s.tbWriteFrom i vs).cur = s.cur := rfl
@[simp] theorem State.tbWriteFrom_hid (i : Nat) (vs : List Nat) : (s.tbWriteFrom i vs).hid = s.hid := rfl
@[simp] theorem State.tbWriteFrom_inited (i : Nat) (vs : List Nat) : (s.tbWriteFrom i vs).inited = s.inited := rfl
@[simp] theorem State.tbWriteFrom_flt (i : Nat) (vs : List Nat) : (s.tbWriteFrom i vs).flt = s.flt := rfl
@[simp] theorem State.tbWriteFrom_pb (i : Nat) (vs : List Nat) : (s.tbWriteFrom i vs).pb = s.pb := rfl
@[simp] theorem State.tbWriteFrom_tb (i : Nat) (vs : List Nat) : (s.tbWriteFrom i vs).tb = Memory.writeFrom s.tb i vs := rfl
@[simp] theorem State.tbWriteFrom_rd (i : Nat) (vs : List Nat) : (s.tbWriteFrom i vs).rd = s.rd := rfl
@[simp] theorem State.tbWriteFrom_act (i : Nat) (vs : List Nat) : (s.tbWriteFrom i vs).act = s.act := rfl
@[simp] theorem State.tbWriteFrom_pend (i : Nat) (vs : List Nat) : (s.tbWriteFrom i vs).pend = s.pend := rfl
@[simp] theorem State.tbWriteFrom_hal (i : Nat) (vs : List Nat) : (s.tbWriteFrom i vs).hal = s.hal := rfl
@[simp] theorem State.tbWriteFrom_tx (i : Nat) (vs : List Nat) : (s.tbWriteFrom i vs).tx = s.tx := rfl
@[simp] theorem State.tbWriteFrom_resp (i : Nat) (vs : List Nat) : (s.tbWriteFrom i vs).resp = s.resp := rfl
@[simp] theorem State.tbWriteFrom_cfg (i : Nat) (vs : List Nat) : (s.tbWriteFrom i vs).cfg = s.cfg := rfl
@[simp] theorem State.tbWriteFrom_clk (i : Nat) (vs : List Nat) : (s.tbWriteFrom i vs).clk = s.clk := rfl
@[simp] theorem State.tbWriteFrom_readyIn (i : Nat) (vs : List Nat) : (s.tbWriteFrom i vs).readyIn = s.readyIn := rfl
@[simp] theorem State.tbWriteFrom_startIn (i : Nat) (vs : List Nat) : (s.tbWriteFrom i vs).startIn = s.startIn := rfl
@[simp] theorem State.tbWriteFrom_turns (i : Nat) (vs : List Nat) : (s.tbWriteFrom i vs).turns = s.turns := rfl
@[simp] theorem State.tbWriteFrom_held (i : Nat) (vs : List Nat) : (s.tbWriteFrom i vs).held = s.held := rfl
@[simp] theorem State.tbWriteFrom_refill (i : Nat) (vs : List Nat) : (s.tbWriteFrom i vs).refill = s.refill := rfl
@[simp] theorem State.tbWriteFrom_old (i : Nat) (vs : List Nat) : (s.tbWriteFrom i vs).old = s.old := rfl
@[simp] theorem State.tbWriteFrom_epoch (i : Nat) (vs : List Nat) : (s.tbWriteFrom i vs).epoch = s.epoch := rfl
@[simp] theorem State.tbWriteFrom_draws (i : Nat) (vs : List Nat) : (s.tbWriteFrom i vs).draws = s.draws := rfl

/-! ### After new unspecified memory contents -/

@[simp] theorem State.forgetMemories_n : (s.forgetMemories).n = s.n := rfl
@[simp] theorem State.forgetMemories_br : (s.forgetMemories).br = s.br := rfl
@[simp] theorem State.forgetMemories_gam : (s.forgetMemories).gam = s.gam := rfl
@[simp] theorem State.forgetMemories_per : (s.forgetMemories).per = s.per := rfl
@[simp] theorem State.forgetMemories_hi : (s.forgetMemories).hi = s.hi := rfl
@[simp] theorem State.forgetMemories_lo : (s.forgetMemories).lo = s.lo := rfl
@[simp] theorem State.forgetMemories_st : (s.forgetMemories).st = s.st := rfl
@[simp] theorem State.forgetMemories_cur : (s.forgetMemories).cur = s.cur := rfl
@[simp] theorem State.forgetMemories_hid : (s.forgetMemories).hid = s.hid := rfl
@[simp] theorem State.forgetMemories_inited : (s.forgetMemories).inited = s.inited := rfl
@[simp] theorem State.forgetMemories_flt : (s.forgetMemories).flt = s.flt := rfl
@[simp] theorem State.forgetMemories_pb : (s.forgetMemories).pb = [] := rfl
@[simp] theorem State.forgetMemories_tb : (s.forgetMemories).tb = [] := rfl
@[simp] theorem State.forgetMemories_rd : (s.forgetMemories).rd = s.rd := rfl
@[simp] theorem State.forgetMemories_act : (s.forgetMemories).act = s.act := rfl
@[simp] theorem State.forgetMemories_pend : (s.forgetMemories).pend = s.pend := rfl
@[simp] theorem State.forgetMemories_hal : (s.forgetMemories).hal = s.hal := rfl
@[simp] theorem State.forgetMemories_tx : (s.forgetMemories).tx = s.tx := rfl
@[simp] theorem State.forgetMemories_resp : (s.forgetMemories).resp = s.resp := rfl
@[simp] theorem State.forgetMemories_cfg : (s.forgetMemories).cfg = s.cfg := rfl
@[simp] theorem State.forgetMemories_clk : (s.forgetMemories).clk = s.clk := rfl
@[simp] theorem State.forgetMemories_readyIn : (s.forgetMemories).readyIn = s.readyIn := rfl
@[simp] theorem State.forgetMemories_startIn : (s.forgetMemories).startIn = s.startIn := rfl
@[simp] theorem State.forgetMemories_turns : (s.forgetMemories).turns = s.turns := rfl
@[simp] theorem State.forgetMemories_held : (s.forgetMemories).held = s.held := rfl
@[simp] theorem State.forgetMemories_refill : (s.forgetMemories).refill = s.refill := rfl
@[simp] theorem State.forgetMemories_old : (s.forgetMemories).old = [] := rfl
@[simp] theorem State.forgetMemories_epoch : (s.forgetMemories).epoch = s.epoch + 1 := rfl
@[simp] theorem State.forgetMemories_draws : (s.forgetMemories).draws = s.draws := rfl

/-! ### After a status code -/

@[simp] theorem State.answer_n (c : Status) : (s.answer c).n = s.n := rfl
@[simp] theorem State.answer_br (c : Status) : (s.answer c).br = s.br := rfl
@[simp] theorem State.answer_gam (c : Status) : (s.answer c).gam = s.gam := rfl
@[simp] theorem State.answer_per (c : Status) : (s.answer c).per = s.per := rfl
@[simp] theorem State.answer_hi (c : Status) : (s.answer c).hi = s.hi := rfl
@[simp] theorem State.answer_lo (c : Status) : (s.answer c).lo = s.lo := rfl
@[simp] theorem State.answer_st (c : Status) : (s.answer c).st = s.st := rfl
@[simp] theorem State.answer_cur (c : Status) : (s.answer c).cur = s.cur := rfl
@[simp] theorem State.answer_hid (c : Status) : (s.answer c).hid = s.hid := rfl
@[simp] theorem State.answer_inited (c : Status) : (s.answer c).inited = s.inited := rfl
@[simp] theorem State.answer_flt (c : Status) : (s.answer c).flt = s.flt := rfl
@[simp] theorem State.answer_pb (c : Status) : (s.answer c).pb = s.pb := rfl
@[simp] theorem State.answer_tb (c : Status) : (s.answer c).tb = s.tb := rfl
@[simp] theorem State.answer_rd (c : Status) : (s.answer c).rd = s.rd := rfl
@[simp] theorem State.answer_act (c : Status) : (s.answer c).act = s.act := rfl
@[simp] theorem State.answer_pend (c : Status) : (s.answer c).pend = s.pend := rfl
@[simp] theorem State.answer_hal (c : Status) : (s.answer c).hal = s.hal := rfl
@[simp] theorem State.answer_tx (c : Status) : (s.answer c).tx = s.tx := rfl
@[simp] theorem State.answer_resp (c : Status) : (s.answer c).resp = s.resp ++ [c] := rfl
@[simp] theorem State.answer_cfg (c : Status) : (s.answer c).cfg = s.cfg := rfl
@[simp] theorem State.answer_clk (c : Status) : (s.answer c).clk = s.clk := rfl
@[simp] theorem State.answer_readyIn (c : Status) : (s.answer c).readyIn = s.readyIn := rfl
@[simp] theorem State.answer_startIn (c : Status) : (s.answer c).startIn = s.startIn := rfl
@[simp] theorem State.answer_turns (c : Status) : (s.answer c).turns = s.turns := rfl
@[simp] theorem State.answer_held (c : Status) : (s.answer c).held = s.held := rfl
@[simp] theorem State.answer_refill (c : Status) : (s.answer c).refill = s.refill := rfl
@[simp] theorem State.answer_old (c : Status) : (s.answer c).old = s.old := rfl
@[simp] theorem State.answer_epoch (c : Status) : (s.answer c).epoch = s.epoch := rfl
@[simp] theorem State.answer_draws (c : Status) : (s.answer c).draws = s.draws := rfl

/-! ### After collaborator actions -/

@[simp] theorem State.emit_n (as : List Action) : (s.emit as).n = s.n := rfl
@[simp] theorem State.emit_br (as : List Action) : (s.emit as).br = s.br := rfl
@[simp] theorem State.emit_gam (as : List Action) : (s.emit as).gam = s.gam := rfl
@[simp] theorem State.emit_per (as : List Action) : (s.emit as).per = s.per := rfl
@[simp] theorem State.emit_hi (as : List Action) : (s.emit as).hi = s.hi := rfl
@[simp] theorem State.emit_lo (as : List Action) : (s.emit as).lo = s.lo := rfl
@[simp] theorem State.emit_st (as : List Action) : (s.emit as).st = s.st := rfl
@[simp] theorem State.emit_cur (as : List Action) : (s.emit as).cur = s.cur := rfl
@[simp] theorem State.emit_hid (as : List Action) : (s.emit as).hid = s.hid := rfl
@[simp] theorem State.emit_inited (as : List Action) : (s.emit as).inited = s.inited := rfl
@[simp] theorem State.emit_flt (as : List Action) : (s.emit as).flt = s.flt := rfl
@[simp] theorem State.emit_pb (as : List Action) : (s.emit as).pb = s.pb := rfl
@[simp] theorem State.emit_tb (as : List Action) : (s.emit as).tb = s.tb := rfl
@[simp] theorem State.emit_rd (as : List Action) : (s.emit as).rd = s.rd := rfl
@[simp] theorem State.emit_act (as : List Action) : (s.emit as).act = s.act := rfl
@[simp] theorem State.emit_pend (as : List Action) : (s.emit as).pend = s.pend := rfl
@[simp] theorem State.emit_hal (as : List Action) : (s.emit as).hal = s.hal ++ as := rfl
@[simp] theorem State.emit_tx (as : List Action) : (s.emit as).tx = s.tx := rfl
@[simp] theorem State.emit_resp (as : List Action) : (s.emit as).resp = s.resp := rfl
@[simp] theorem State.emit_cfg (as : List Action) : (s.emit as).cfg = s.cfg := rfl
@[simp] theorem State.emit_clk (as : List Action) : (s.emit as).clk = s.clk := rfl
@[simp] theorem State.emit_readyIn (as : List Action) : (s.emit as).readyIn = s.readyIn := rfl
@[simp] theorem State.emit_startIn (as : List Action) : (s.emit as).startIn = s.startIn := rfl
@[simp] theorem State.emit_turns (as : List Action) : (s.emit as).turns = s.turns := rfl
@[simp] theorem State.emit_held (as : List Action) : (s.emit as).held = s.held := rfl
@[simp] theorem State.emit_refill (as : List Action) : (s.emit as).refill = s.refill := rfl
@[simp] theorem State.emit_old (as : List Action) : (s.emit as).old = s.old := rfl
@[simp] theorem State.emit_epoch (as : List Action) : (s.emit as).epoch = s.epoch := rfl
@[simp] theorem State.emit_draws (as : List Action) : (s.emit as).draws = s.draws := rfl

/-! ### After a draw of ChReady -/

@[simp] theorem State.drawChReady_n : (s.drawChReady).n = s.n := rfl
@[simp] theorem State.drawChReady_br : (s.drawChReady).br = s.br := rfl
@[simp] theorem State.drawChReady_gam : (s.drawChReady).gam = s.gam := rfl
@[simp] theorem State.drawChReady_per : (s.drawChReady).per = s.per := rfl
@[simp] theorem State.drawChReady_hi : (s.drawChReady).hi = s.hi := rfl
@[simp] theorem State.drawChReady_lo : (s.drawChReady).lo = s.lo := rfl
@[simp] theorem State.drawChReady_st : (s.drawChReady).st = s.st := rfl
@[simp] theorem State.drawChReady_cur : (s.drawChReady).cur = s.cur := rfl
@[simp] theorem State.drawChReady_hid : (s.drawChReady).hid = s.hid := rfl
@[simp] theorem State.drawChReady_inited : (s.drawChReady).inited = s.inited := rfl
@[simp] theorem State.drawChReady_flt : (s.drawChReady).flt = s.flt := rfl
@[simp] theorem State.drawChReady_pb : (s.drawChReady).pb = s.pb := rfl
@[simp] theorem State.drawChReady_tb : (s.drawChReady).tb = s.tb := rfl
@[simp] theorem State.drawChReady_rd : (s.drawChReady).rd = s.rd := rfl
@[simp] theorem State.drawChReady_act : (s.drawChReady).act = s.act := rfl
@[simp] theorem State.drawChReady_pend : (s.drawChReady).pend = s.pend := rfl
@[simp] theorem State.drawChReady_hal : (s.drawChReady).hal = s.hal := rfl
@[simp] theorem State.drawChReady_tx : (s.drawChReady).tx = s.tx := rfl
@[simp] theorem State.drawChReady_resp : (s.drawChReady).resp = s.resp := rfl
@[simp] theorem State.drawChReady_cfg : (s.drawChReady).cfg = s.cfg := rfl
@[simp] theorem State.drawChReady_clk : (s.drawChReady).clk = s.clk := rfl
@[simp] theorem State.drawChReady_readyIn : (s.drawChReady).readyIn = s.readyIn.tail := rfl
@[simp] theorem State.drawChReady_startIn : (s.drawChReady).startIn = s.startIn := rfl
@[simp] theorem State.drawChReady_turns : (s.drawChReady).turns = s.turns := rfl
@[simp] theorem State.drawChReady_held : (s.drawChReady).held = s.held := rfl
@[simp] theorem State.drawChReady_refill : (s.drawChReady).refill = s.refill := rfl
@[simp] theorem State.drawChReady_old : (s.drawChReady).old = s.old := rfl
@[simp] theorem State.drawChReady_epoch : (s.drawChReady).epoch = s.epoch := rfl
@[simp] theorem State.drawChReady_draws : (s.drawChReady).draws = s.draws := rfl

/-! ### After a draw of StartResult -/

@[simp] theorem State.drawStartResult_n : (s.drawStartResult).n = s.n := rfl
@[simp] theorem State.drawStartResult_br : (s.drawStartResult).br = s.br := rfl
@[simp] theorem State.drawStartResult_gam : (s.drawStartResult).gam = s.gam := rfl
@[simp] theorem State.drawStartResult_per : (s.drawStartResult).per = s.per := rfl
@[simp] theorem State.drawStartResult_hi : (s.drawStartResult).hi = s.hi := rfl
@[simp] theorem State.drawStartResult_lo : (s.drawStartResult).lo = s.lo := rfl
@[simp] theorem State.drawStartResult_st : (s.drawStartResult).st = s.st := rfl
@[simp] theorem State.drawStartResult_cur : (s.drawStartResult).cur = s.cur := rfl
@[simp] theorem State.drawStartResult_hid : (s.drawStartResult).hid = s.hid := rfl
@[simp] theorem State.drawStartResult_inited : (s.drawStartResult).inited = s.inited := rfl
@[simp] theorem State.drawStartResult_flt : (s.drawStartResult).flt = s.flt := rfl
@[simp] theorem State.drawStartResult_pb : (s.drawStartResult).pb = s.pb := rfl
@[simp] theorem State.drawStartResult_tb : (s.drawStartResult).tb = s.tb := rfl
@[simp] theorem State.drawStartResult_rd : (s.drawStartResult).rd = s.rd := rfl
@[simp] theorem State.drawStartResult_act : (s.drawStartResult).act = s.act := rfl
@[simp] theorem State.drawStartResult_pend : (s.drawStartResult).pend = s.pend := rfl
@[simp] theorem State.drawStartResult_hal : (s.drawStartResult).hal = s.hal := rfl
@[simp] theorem State.drawStartResult_tx : (s.drawStartResult).tx = s.tx := rfl
@[simp] theorem State.drawStartResult_resp : (s.drawStartResult).resp = s.resp := rfl
@[simp] theorem State.drawStartResult_cfg : (s.drawStartResult).cfg = s.cfg := rfl
@[simp] theorem State.drawStartResult_clk : (s.drawStartResult).clk = s.clk := rfl
@[simp] theorem State.drawStartResult_readyIn : (s.drawStartResult).readyIn = s.readyIn := rfl
@[simp] theorem State.drawStartResult_startIn : (s.drawStartResult).startIn = s.startIn.tail := rfl
@[simp] theorem State.drawStartResult_turns : (s.drawStartResult).turns = s.turns := rfl
@[simp] theorem State.drawStartResult_held : (s.drawStartResult).held = s.held := rfl
@[simp] theorem State.drawStartResult_refill : (s.drawStartResult).refill = s.refill := rfl
@[simp] theorem State.drawStartResult_old : (s.drawStartResult).old = s.old := rfl
@[simp] theorem State.drawStartResult_epoch : (s.drawStartResult).epoch = s.epoch := rfl
@[simp] theorem State.drawStartResult_draws : (s.drawStartResult).draws = s.draws := rfl

/-! ### After a clock change -/

@[simp] theorem State.setClock_n (sel : Byte) (f : Option Nat) : (s.setClock sel f).n = s.n := rfl
@[simp] theorem State.setClock_br (sel : Byte) (f : Option Nat) : (s.setClock sel f).br = s.br := rfl
@[simp] theorem State.setClock_gam (sel : Byte) (f : Option Nat) : (s.setClock sel f).gam = s.gam := rfl
@[simp] theorem State.setClock_per (sel : Byte) (f : Option Nat) : (s.setClock sel f).per = s.per := rfl
@[simp] theorem State.setClock_hi (sel : Byte) (f : Option Nat) : (s.setClock sel f).hi = s.hi := rfl
@[simp] theorem State.setClock_lo (sel : Byte) (f : Option Nat) : (s.setClock sel f).lo = s.lo := rfl
@[simp] theorem State.setClock_st (sel : Byte) (f : Option Nat) : (s.setClock sel f).st = s.st := rfl
@[simp] theorem State.setClock_cur (sel : Byte) (f : Option Nat) : (s.setClock sel f).cur = s.cur := rfl
@[simp] theorem State.setClock_hid (sel : Byte) (f : Option Nat) : (s.setClock sel f).hid = s.hid := rfl
@[simp] theorem State.setClock_inited (sel : Byte) (f : Option Nat) : (s.setClock sel f).inited = s.inited := rfl
@[simp] theorem State.setClock_flt (sel : Byte) (f : Option Nat) : (s.setClock sel f).flt = s.flt := rfl
@[simp] theorem State.setClock_pb (sel : Byte) (f : Option Nat) : (s.setClock sel f).pb = s.pb := rfl
@[simp] theorem State.setClock_tb (sel : Byte) (f : Option Nat) : (s.setClock sel f).tb = s.tb := rfl
@[simp] theorem State.setClock_rd (sel : Byte) (f : Option Nat) : (s.setClock sel f).rd = s.rd := rfl
@[simp] theorem State.setClock_act (sel : Byte) (f : Option Nat) : (s.setClock sel f).act = s.act := rfl
@[simp] theorem State.setClock_pend (sel : Byte) (f : Option Nat) : (s.setClock sel f).pend = s.pend := rfl
@[simp] theorem State.setClock_hal (sel : Byte) (f : Option Nat) : (s.setClock sel f).hal = s.hal := rfl
@[simp] theorem State.setClock_tx (sel : Byte) (f : Option Nat) : (s.setClock sel f).tx = s.tx := rfl
@[simp] theorem State.setClock_resp (sel : Byte) (f : Option Nat) : (s.setClock sel f).resp = s.resp := rfl
@[simp] theorem State.setClock_cfg (sel : Byte) (f : Option Nat) : (s.setClock sel f).cfg = s.cfg := rfl
@[simp] theorem State.setClock_clk (sel : Byte) (f : Option Nat) : (s.setClock sel f).clk = (sel, f) :: s.clk.filter (fun p => p.1 != sel) := rfl
@[simp] theorem State.setClock_readyIn (sel : Byte) (f : Option Nat) : (s.setClock sel f).readyIn = s.readyIn := rfl
@[simp] theorem State.setClock_startIn (sel : Byte) (f : Option Nat) : (s.setClock sel f).startIn = s.startIn := rfl
@[simp] theorem State.setClock_turns (sel : Byte) (f : Option Nat) : (s.setClock sel f).turns = s.turns := rfl
@[simp] theorem State.setClock_held (sel : Byte) (f : Option Nat) : (s.setClock sel f).held = s.held := rfl
@[simp] theorem State.setClock_refill (sel : Byte) (f : Option Nat) : (s.setClock sel f).refill = s.refill := rfl
@[simp] theorem State.setClock_old (sel : Byte) (f : Option Nat) : (s.setClock sel f).old = s.old := rfl
@[simp] theorem State.setClock_epoch (sel : Byte) (f : Option Nat) : (s.setClock sel f).epoch = s.epoch := rfl
@[simp] theorem State.setClock_draws (sel : Byte) (f : Option Nat) : (s.setClock sel f).draws = s.draws := rfl

/-! ### After a posted event -/

@[simp] theorem State.post_n (e : EventWord) : (s.post e).n = s.n := rfl
@[simp] theorem State.post_br (e : EventWord) : (s.post e).br = s.br := rfl
@[simp] theorem State.post_gam (e : EventWord) : (s.post e).gam = s.gam := rfl
@[simp] theorem State.post_per (e : EventWord) : (s.post e).per = s.per := rfl
@[simp] theorem State.post_hi (e : EventWord) : (s.post e).hi = s.hi := rfl
@[simp] theorem State.post_lo (e : EventWord) : (s.post e).lo = s.lo := rfl
@[simp] theorem State.post_st (e : EventWord) : (s.post e).st = s.st := rfl
@[simp] theorem State.post_cur (e : EventWord) : (s.post e).cur = s.cur := rfl
@[simp] theorem State.post_hid (e : EventWord) : (s.post e).hid = s.hid := rfl
@[simp] theorem State.post_inited (e : EventWord) : (s.post e).inited = s.inited := rfl
@[simp] theorem State.post_flt (e : EventWord) : (s.post e).flt = s.flt := rfl
@[simp] theorem State.post_pb (e : EventWord) : (s.post e).pb = s.pb := rfl
@[simp] theorem State.post_tb (e : EventWord) : (s.post e).tb = s.tb := rfl
@[simp] theorem State.post_rd (e : EventWord) : (s.post e).rd = s.rd := rfl
@[simp] theorem State.post_act (e : EventWord) : (s.post e).act = s.act := rfl
@[simp] theorem State.post_pend (e : EventWord) : (s.post e).pend = s.pend ++ [e] := rfl
@[simp] theorem State.post_hal (e : EventWord) : (s.post e).hal = s.hal := rfl
@[simp] theorem State.post_tx (e : EventWord) : (s.post e).tx = s.tx := rfl
@[simp] theorem State.post_resp (e : EventWord) : (s.post e).resp = s.resp := rfl
@[simp] theorem State.post_cfg (e : EventWord) : (s.post e).cfg = s.cfg := rfl
@[simp] theorem State.post_clk (e : EventWord) : (s.post e).clk = s.clk := rfl
@[simp] theorem State.post_readyIn (e : EventWord) : (s.post e).readyIn = s.readyIn := rfl
@[simp] theorem State.post_startIn (e : EventWord) : (s.post e).startIn = s.startIn := rfl
@[simp] theorem State.post_turns (e : EventWord) : (s.post e).turns = s.turns := rfl
@[simp] theorem State.post_held (e : EventWord) : (s.post e).held = s.held := rfl
@[simp] theorem State.post_refill (e : EventWord) : (s.post e).refill = s.refill := rfl
@[simp] theorem State.post_old (e : EventWord) : (s.post e).old = s.old := rfl
@[simp] theorem State.post_epoch (e : EventWord) : (s.post e).epoch = s.epoch := rfl
@[simp] theorem State.post_draws (e : EventWord) : (s.post e).draws = s.draws := rfl

/-! ### After the entry to a handler -/

@[simp] theorem State.takeEvent_n : (s.takeEvent).n = s.n := rfl
@[simp] theorem State.takeEvent_br : (s.takeEvent).br = s.br := rfl
@[simp] theorem State.takeEvent_gam : (s.takeEvent).gam = s.gam := rfl
@[simp] theorem State.takeEvent_per : (s.takeEvent).per = s.per := rfl
@[simp] theorem State.takeEvent_hi : (s.takeEvent).hi = s.hi := rfl
@[simp] theorem State.takeEvent_lo : (s.takeEvent).lo = s.lo := rfl
@[simp] theorem State.takeEvent_st : (s.takeEvent).st = s.st := rfl
@[simp] theorem State.takeEvent_cur : (s.takeEvent).cur = s.cur := rfl
@[simp] theorem State.takeEvent_hid : (s.takeEvent).hid = s.hid := rfl
@[simp] theorem State.takeEvent_inited : (s.takeEvent).inited = s.inited := rfl
@[simp] theorem State.takeEvent_flt : (s.takeEvent).flt = s.flt := rfl
@[simp] theorem State.takeEvent_pb : (s.takeEvent).pb = s.pb := rfl
@[simp] theorem State.takeEvent_tb : (s.takeEvent).tb = s.tb := rfl
@[simp] theorem State.takeEvent_rd : (s.takeEvent).rd = s.rd := rfl
@[simp] theorem State.takeEvent_act : (s.takeEvent).act = s.act := rfl
@[simp] theorem State.takeEvent_pend : (s.takeEvent).pend = s.pend.tail := rfl
@[simp] theorem State.takeEvent_hal : (s.takeEvent).hal = s.hal := rfl
@[simp] theorem State.takeEvent_tx : (s.takeEvent).tx = s.tx := rfl
@[simp] theorem State.takeEvent_resp : (s.takeEvent).resp = s.resp := rfl
@[simp] theorem State.takeEvent_cfg : (s.takeEvent).cfg = s.cfg := rfl
@[simp] theorem State.takeEvent_clk : (s.takeEvent).clk = s.clk := rfl
@[simp] theorem State.takeEvent_readyIn : (s.takeEvent).readyIn = s.readyIn := rfl
@[simp] theorem State.takeEvent_startIn : (s.takeEvent).startIn = s.startIn := rfl
@[simp] theorem State.takeEvent_turns : (s.takeEvent).turns = s.turns := rfl
@[simp] theorem State.takeEvent_held : (s.takeEvent).held = s.held := rfl
@[simp] theorem State.takeEvent_refill : (s.takeEvent).refill = s.refill := rfl
@[simp] theorem State.takeEvent_old : (s.takeEvent).old = s.old := rfl
@[simp] theorem State.takeEvent_epoch : (s.takeEvent).epoch = s.epoch := rfl
@[simp] theorem State.takeEvent_draws : (s.takeEvent).draws = s.draws := rfl

/-! ### After a counted step -/

@[simp] theorem State.tick_n : (s.tick).n = s.n := rfl
@[simp] theorem State.tick_br : (s.tick).br = s.br := rfl
@[simp] theorem State.tick_gam : (s.tick).gam = s.gam := rfl
@[simp] theorem State.tick_per : (s.tick).per = s.per := rfl
@[simp] theorem State.tick_hi : (s.tick).hi = s.hi := rfl
@[simp] theorem State.tick_lo : (s.tick).lo = s.lo := rfl
@[simp] theorem State.tick_st : (s.tick).st = s.st := rfl
@[simp] theorem State.tick_cur : (s.tick).cur = s.cur := rfl
@[simp] theorem State.tick_hid : (s.tick).hid = s.hid := rfl
@[simp] theorem State.tick_inited : (s.tick).inited = s.inited := rfl
@[simp] theorem State.tick_flt : (s.tick).flt = s.flt := rfl
@[simp] theorem State.tick_pb : (s.tick).pb = s.pb := rfl
@[simp] theorem State.tick_tb : (s.tick).tb = s.tb := rfl
@[simp] theorem State.tick_rd : (s.tick).rd = s.rd := rfl
@[simp] theorem State.tick_act : (s.tick).act = s.act := rfl
@[simp] theorem State.tick_pend : (s.tick).pend = s.pend := rfl
@[simp] theorem State.tick_hal : (s.tick).hal = s.hal := rfl
@[simp] theorem State.tick_tx : (s.tick).tx = s.tx := rfl
@[simp] theorem State.tick_resp : (s.tick).resp = s.resp := rfl
@[simp] theorem State.tick_cfg : (s.tick).cfg = s.cfg := rfl
@[simp] theorem State.tick_clk : (s.tick).clk = s.clk := rfl
@[simp] theorem State.tick_readyIn : (s.tick).readyIn = s.readyIn := rfl
@[simp] theorem State.tick_startIn : (s.tick).startIn = s.startIn := rfl
@[simp] theorem State.tick_turns : (s.tick).turns = s.turns := rfl
@[simp] theorem State.tick_held : (s.tick).held = s.held := rfl
@[simp] theorem State.tick_refill : (s.tick).refill = s.refill := rfl
@[simp] theorem State.tick_old : (s.tick).old = s.old := rfl
@[simp] theorem State.tick_epoch : (s.tick).epoch = s.epoch := rfl
@[simp] theorem State.tick_draws : (s.tick).draws = s.draws + 1 := rfl

/-! ### After a counted move -/

@[simp] theorem State.popTurn_n : (s.popTurn).n = s.n := rfl
@[simp] theorem State.popTurn_br : (s.popTurn).br = s.br := rfl
@[simp] theorem State.popTurn_gam : (s.popTurn).gam = s.gam := rfl
@[simp] theorem State.popTurn_per : (s.popTurn).per = s.per := rfl
@[simp] theorem State.popTurn_hi : (s.popTurn).hi = s.hi := rfl
@[simp] theorem State.popTurn_lo : (s.popTurn).lo = s.lo := rfl
@[simp] theorem State.popTurn_st : (s.popTurn).st = s.st := rfl
@[simp] theorem State.popTurn_cur : (s.popTurn).cur = s.cur := rfl
@[simp] theorem State.popTurn_hid : (s.popTurn).hid = s.hid := rfl
@[simp] theorem State.popTurn_inited : (s.popTurn).inited = s.inited := rfl
@[simp] theorem State.popTurn_flt : (s.popTurn).flt = s.flt := rfl
@[simp] theorem State.popTurn_pb : (s.popTurn).pb = s.pb := rfl
@[simp] theorem State.popTurn_tb : (s.popTurn).tb = s.tb := rfl
@[simp] theorem State.popTurn_rd : (s.popTurn).rd = s.rd := rfl
@[simp] theorem State.popTurn_act : (s.popTurn).act = s.act := rfl
@[simp] theorem State.popTurn_pend : (s.popTurn).pend = s.pend := rfl
@[simp] theorem State.popTurn_hal : (s.popTurn).hal = s.hal := rfl
@[simp] theorem State.popTurn_tx : (s.popTurn).tx = s.tx := rfl
@[simp] theorem State.popTurn_resp : (s.popTurn).resp = s.resp := rfl
@[simp] theorem State.popTurn_cfg : (s.popTurn).cfg = s.cfg := rfl
@[simp] theorem State.popTurn_clk : (s.popTurn).clk = s.clk := rfl
@[simp] theorem State.popTurn_readyIn : (s.popTurn).readyIn = s.readyIn := rfl
@[simp] theorem State.popTurn_startIn : (s.popTurn).startIn = s.startIn := rfl
@[simp] theorem State.popTurn_turns : (s.popTurn).turns = s.turns.tail := rfl
@[simp] theorem State.popTurn_held : (s.popTurn).held = s.held := rfl
@[simp] theorem State.popTurn_refill : (s.popTurn).refill = s.refill := rfl
@[simp] theorem State.popTurn_old : (s.popTurn).old = s.old := rfl
@[simp] theorem State.popTurn_epoch : (s.popTurn).epoch = s.epoch := rfl
@[simp] theorem State.popTurn_draws : (s.popTurn).draws = s.draws + 1 := rfl

/-! ### After a cursor advance -/

@[simp] theorem State.advance_n : (s.advance).n = s.n := rfl
@[simp] theorem State.advance_br : (s.advance).br = s.br := rfl
@[simp] theorem State.advance_gam : (s.advance).gam = s.gam := rfl
@[simp] theorem State.advance_per : (s.advance).per = s.per := rfl
@[simp] theorem State.advance_hi : (s.advance).hi = s.hi := rfl
@[simp] theorem State.advance_lo : (s.advance).lo = s.lo := rfl
@[simp] theorem State.advance_st : (s.advance).st = s.st := rfl
@[simp] theorem State.advance_cur : (s.advance).cur = s.cur + 1#17 := rfl
@[simp] theorem State.advance_hid : (s.advance).hid = s.hid := rfl
@[simp] theorem State.advance_inited : (s.advance).inited = s.inited := rfl
@[simp] theorem State.advance_flt : (s.advance).flt = s.flt := rfl
@[simp] theorem State.advance_pb : (s.advance).pb = s.pb := rfl
@[simp] theorem State.advance_tb : (s.advance).tb = s.tb := rfl
@[simp] theorem State.advance_rd : (s.advance).rd = s.rd := rfl
@[simp] theorem State.advance_act : (s.advance).act = s.act := rfl
@[simp] theorem State.advance_pend : (s.advance).pend = s.pend := rfl
@[simp] theorem State.advance_hal : (s.advance).hal = s.hal := rfl
@[simp] theorem State.advance_tx : (s.advance).tx = s.tx := rfl
@[simp] theorem State.advance_resp : (s.advance).resp = s.resp := rfl
@[simp] theorem State.advance_cfg : (s.advance).cfg = s.cfg := rfl
@[simp] theorem State.advance_clk : (s.advance).clk = s.clk := rfl
@[simp] theorem State.advance_readyIn : (s.advance).readyIn = s.readyIn := rfl
@[simp] theorem State.advance_startIn : (s.advance).startIn = s.startIn := rfl
@[simp] theorem State.advance_turns : (s.advance).turns = s.turns := rfl
@[simp] theorem State.advance_held : (s.advance).held = s.held := rfl
@[simp] theorem State.advance_refill : (s.advance).refill = s.refill := rfl
@[simp] theorem State.advance_old : (s.advance).old = s.old := rfl
@[simp] theorem State.advance_epoch : (s.advance).epoch = s.epoch := rfl
@[simp] theorem State.advance_draws : (s.advance).draws = s.draws := rfl

/-! ### After the stores of one pixel -/

@[simp] theorem State.storePixel_n (j : Nat) (r g b : Byte) : (s.storePixel j r g b).n = s.n := by simp [State.storePixel]
@[simp] theorem State.storePixel_br (j : Nat) (r g b : Byte) : (s.storePixel j r g b).br = s.br := by simp [State.storePixel]
@[simp] theorem State.storePixel_gam (j : Nat) (r g b : Byte) : (s.storePixel j r g b).gam = s.gam := by simp [State.storePixel]
@[simp] theorem State.storePixel_per (j : Nat) (r g b : Byte) : (s.storePixel j r g b).per = s.per := by simp [State.storePixel]
@[simp] theorem State.storePixel_hi (j : Nat) (r g b : Byte) : (s.storePixel j r g b).hi = s.hi := by simp [State.storePixel]
@[simp] theorem State.storePixel_lo (j : Nat) (r g b : Byte) : (s.storePixel j r g b).lo = s.lo := by simp [State.storePixel]
@[simp] theorem State.storePixel_st (j : Nat) (r g b : Byte) : (s.storePixel j r g b).st = s.st := by simp [State.storePixel]
@[simp] theorem State.storePixel_cur (j : Nat) (r g b : Byte) : (s.storePixel j r g b).cur = s.cur := by simp [State.storePixel]
@[simp] theorem State.storePixel_hid (j : Nat) (r g b : Byte) : (s.storePixel j r g b).hid = s.hid := by simp [State.storePixel]
@[simp] theorem State.storePixel_inited (j : Nat) (r g b : Byte) : (s.storePixel j r g b).inited = s.inited := by simp [State.storePixel]
@[simp] theorem State.storePixel_flt (j : Nat) (r g b : Byte) : (s.storePixel j r g b).flt = s.flt := by simp [State.storePixel]
@[simp] theorem State.storePixel_tb (j : Nat) (r g b : Byte) : (s.storePixel j r g b).tb = s.tb := by simp [State.storePixel]
@[simp] theorem State.storePixel_rd (j : Nat) (r g b : Byte) : (s.storePixel j r g b).rd = s.rd := by simp [State.storePixel]
@[simp] theorem State.storePixel_act (j : Nat) (r g b : Byte) : (s.storePixel j r g b).act = s.act := by simp [State.storePixel]
@[simp] theorem State.storePixel_pend (j : Nat) (r g b : Byte) : (s.storePixel j r g b).pend = s.pend := by simp [State.storePixel]
@[simp] theorem State.storePixel_hal (j : Nat) (r g b : Byte) : (s.storePixel j r g b).hal = s.hal := by simp [State.storePixel]
@[simp] theorem State.storePixel_tx (j : Nat) (r g b : Byte) : (s.storePixel j r g b).tx = s.tx := by simp [State.storePixel]
@[simp] theorem State.storePixel_resp (j : Nat) (r g b : Byte) : (s.storePixel j r g b).resp = s.resp := by simp [State.storePixel]
@[simp] theorem State.storePixel_cfg (j : Nat) (r g b : Byte) : (s.storePixel j r g b).cfg = s.cfg := by simp [State.storePixel]
@[simp] theorem State.storePixel_clk (j : Nat) (r g b : Byte) : (s.storePixel j r g b).clk = s.clk := by simp [State.storePixel]
@[simp] theorem State.storePixel_readyIn (j : Nat) (r g b : Byte) : (s.storePixel j r g b).readyIn = s.readyIn := by simp [State.storePixel]
@[simp] theorem State.storePixel_startIn (j : Nat) (r g b : Byte) : (s.storePixel j r g b).startIn = s.startIn := by simp [State.storePixel]
@[simp] theorem State.storePixel_turns (j : Nat) (r g b : Byte) : (s.storePixel j r g b).turns = s.turns := by simp [State.storePixel]
@[simp] theorem State.storePixel_held (j : Nat) (r g b : Byte) : (s.storePixel j r g b).held = s.held := by simp [State.storePixel]
@[simp] theorem State.storePixel_refill (j : Nat) (r g b : Byte) : (s.storePixel j r g b).refill = s.refill := by simp [State.storePixel]
@[simp] theorem State.storePixel_epoch (j : Nat) (r g b : Byte) : (s.storePixel j r g b).epoch = s.epoch := by simp [State.storePixel]
@[simp] theorem State.storePixel_draws (j : Nat) (r g b : Byte) : (s.storePixel j r g b).draws = s.draws := by simp [State.storePixel]

/-! ### After the expansion of a pixel -/

@[simp] theorem State.encPix_n (p base : Nat) : (s.encPix p base).n = s.n := by simp [State.encPix]
@[simp] theorem State.encPix_br (p base : Nat) : (s.encPix p base).br = s.br := by simp [State.encPix]
@[simp] theorem State.encPix_gam (p base : Nat) : (s.encPix p base).gam = s.gam := by simp [State.encPix]
@[simp] theorem State.encPix_per (p base : Nat) : (s.encPix p base).per = s.per := by simp [State.encPix]
@[simp] theorem State.encPix_hi (p base : Nat) : (s.encPix p base).hi = s.hi := by simp [State.encPix]
@[simp] theorem State.encPix_lo (p base : Nat) : (s.encPix p base).lo = s.lo := by simp [State.encPix]
@[simp] theorem State.encPix_st (p base : Nat) : (s.encPix p base).st = s.st := by simp [State.encPix]
@[simp] theorem State.encPix_cur (p base : Nat) : (s.encPix p base).cur = s.cur := by simp [State.encPix]
@[simp] theorem State.encPix_hid (p base : Nat) : (s.encPix p base).hid = s.hid := by simp [State.encPix]
@[simp] theorem State.encPix_inited (p base : Nat) : (s.encPix p base).inited = s.inited := by simp [State.encPix]
@[simp] theorem State.encPix_flt (p base : Nat) : (s.encPix p base).flt = s.flt := by simp [State.encPix]
@[simp] theorem State.encPix_pb (p base : Nat) : (s.encPix p base).pb = s.pb := by simp [State.encPix]
@[simp] theorem State.encPix_tb (p base : Nat) : (s.encPix p base).tb = Memory.writeFrom s.tb base (s.pixelValues p) := by simp [State.encPix]
@[simp] theorem State.encPix_rd (p base : Nat) : (s.encPix p base).rd = s.rd := by simp [State.encPix]
@[simp] theorem State.encPix_act (p base : Nat) : (s.encPix p base).act = s.act := by simp [State.encPix]
@[simp] theorem State.encPix_pend (p base : Nat) : (s.encPix p base).pend = s.pend := by simp [State.encPix]
@[simp] theorem State.encPix_hal (p base : Nat) : (s.encPix p base).hal = s.hal := by simp [State.encPix]
@[simp] theorem State.encPix_tx (p base : Nat) : (s.encPix p base).tx = s.tx := by simp [State.encPix]
@[simp] theorem State.encPix_resp (p base : Nat) : (s.encPix p base).resp = s.resp := by simp [State.encPix]
@[simp] theorem State.encPix_cfg (p base : Nat) : (s.encPix p base).cfg = s.cfg := by simp [State.encPix]
@[simp] theorem State.encPix_clk (p base : Nat) : (s.encPix p base).clk = s.clk := by simp [State.encPix]
@[simp] theorem State.encPix_readyIn (p base : Nat) : (s.encPix p base).readyIn = s.readyIn := by simp [State.encPix]
@[simp] theorem State.encPix_startIn (p base : Nat) : (s.encPix p base).startIn = s.startIn := by simp [State.encPix]
@[simp] theorem State.encPix_turns (p base : Nat) : (s.encPix p base).turns = s.turns := by simp [State.encPix]
@[simp] theorem State.encPix_held (p base : Nat) : (s.encPix p base).held = s.held := by simp [State.encPix]
@[simp] theorem State.encPix_refill (p base : Nat) : (s.encPix p base).refill = s.refill := by simp [State.encPix]
@[simp] theorem State.encPix_old (p base : Nat) : (s.encPix p base).old = s.old := by simp [State.encPix]
@[simp] theorem State.encPix_epoch (p base : Nat) : (s.encPix p base).epoch = s.epoch := by simp [State.encPix]
@[simp] theorem State.encPix_draws (p base : Nat) : (s.encPix p base).draws = s.draws := by simp [State.encPix]

/-! ### After the reset pattern -/

@[simp] theorem State.zeroHalf_n (base : Nat) : (s.zeroHalf base).n = s.n := by simp [State.zeroHalf]
@[simp] theorem State.zeroHalf_br (base : Nat) : (s.zeroHalf base).br = s.br := by simp [State.zeroHalf]
@[simp] theorem State.zeroHalf_gam (base : Nat) : (s.zeroHalf base).gam = s.gam := by simp [State.zeroHalf]
@[simp] theorem State.zeroHalf_per (base : Nat) : (s.zeroHalf base).per = s.per := by simp [State.zeroHalf]
@[simp] theorem State.zeroHalf_hi (base : Nat) : (s.zeroHalf base).hi = s.hi := by simp [State.zeroHalf]
@[simp] theorem State.zeroHalf_lo (base : Nat) : (s.zeroHalf base).lo = s.lo := by simp [State.zeroHalf]
@[simp] theorem State.zeroHalf_st (base : Nat) : (s.zeroHalf base).st = s.st := by simp [State.zeroHalf]
@[simp] theorem State.zeroHalf_cur (base : Nat) : (s.zeroHalf base).cur = s.cur := by simp [State.zeroHalf]
@[simp] theorem State.zeroHalf_hid (base : Nat) : (s.zeroHalf base).hid = s.hid := by simp [State.zeroHalf]
@[simp] theorem State.zeroHalf_inited (base : Nat) : (s.zeroHalf base).inited = s.inited := by simp [State.zeroHalf]
@[simp] theorem State.zeroHalf_flt (base : Nat) : (s.zeroHalf base).flt = s.flt := by simp [State.zeroHalf]
@[simp] theorem State.zeroHalf_pb (base : Nat) : (s.zeroHalf base).pb = s.pb := by simp [State.zeroHalf]
@[simp] theorem State.zeroHalf_tb (base : Nat) : (s.zeroHalf base).tb = Memory.writeFrom s.tb base zeroValues := by simp [State.zeroHalf]
@[simp] theorem State.zeroHalf_rd (base : Nat) : (s.zeroHalf base).rd = s.rd := by simp [State.zeroHalf]
@[simp] theorem State.zeroHalf_act (base : Nat) : (s.zeroHalf base).act = s.act := by simp [State.zeroHalf]
@[simp] theorem State.zeroHalf_pend (base : Nat) : (s.zeroHalf base).pend = s.pend := by simp [State.zeroHalf]
@[simp] theorem State.zeroHalf_hal (base : Nat) : (s.zeroHalf base).hal = s.hal := by simp [State.zeroHalf]
@[simp] theorem State.zeroHalf_tx (base : Nat) : (s.zeroHalf base).tx = s.tx := by simp [State.zeroHalf]
@[simp] theorem State.zeroHalf_resp (base : Nat) : (s.zeroHalf base).resp = s.resp := by simp [State.zeroHalf]
@[simp] theorem State.zeroHalf_cfg (base : Nat) : (s.zeroHalf base).cfg = s.cfg := by simp [State.zeroHalf]
@[simp] theorem State.zeroHalf_clk (base : Nat) : (s.zeroHalf base).clk = s.clk := by simp [State.zeroHalf]
@[simp] theorem State.zeroHalf_readyIn (base : Nat) : (s.zeroHalf base).readyIn = s.readyIn := by simp [State.zeroHalf]
@[simp] theorem State.zeroHalf_startIn (base : Nat) : (s.zeroHalf base).startIn = s.startIn := by simp [State.zeroHalf]
@[simp] theorem State.zeroHalf_turns (base : Nat) : (s.zeroHalf base).turns = s.turns := by simp [State.zeroHalf]
@[simp] theorem State.zeroHalf_held (base : Nat) : (s.zeroHalf base).held = s.held := by simp [State.zeroHalf]
@[simp] theorem State.zeroHalf_refill (base : Nat) : (s.zeroHalf base).refill = s.refill := by simp [State.zeroHalf]
@[simp] theorem State.zeroHalf_old (base : Nat) : (s.zeroHalf base).old = s.old := by simp [State.zeroHalf]
@[simp] theorem State.zeroHalf_epoch (base : Nat) : (s.zeroHalf base).epoch = s.epoch := by simp [State.zeroHalf]
@[simp] theorem State.zeroHalf_draws (base : Nat) : (s.zeroHalf base).draws = s.draws := by simp [State.zeroHalf]

/-! ### After the end of a refill -/

@[simp] theorem State.endRefill_n (r : Refill) : (s.endRefill r).n = s.n := by unfold State.endRefill; split <;> rfl
@[simp] theorem State.endRefill_br (r : Refill) : (s.endRefill r).br = s.br := by unfold State.endRefill; split <;> rfl
@[simp] theorem State.endRefill_gam (r : Refill) : (s.endRefill r).gam = s.gam := by unfold State.endRefill; split <;> rfl
@[simp] theorem State.endRefill_per (r : Refill) : (s.endRefill r).per = s.per := by unfold State.endRefill; split <;> rfl
@[simp] theorem State.endRefill_hi (r : Refill) : (s.endRefill r).hi = s.hi := by unfold State.endRefill; split <;> rfl
@[simp] theorem State.endRefill_lo (r : Refill) : (s.endRefill r).lo = s.lo := by unfold State.endRefill; split <;> rfl
@[simp] theorem State.endRefill_st (r : Refill) : (s.endRefill r).st = s.st := by unfold State.endRefill; split <;> rfl
@[simp] theorem State.endRefill_cur (r : Refill) : (s.endRefill r).cur = if r.advances then s.cur + 1#17 else s.cur := by unfold State.endRefill; split <;> rfl
@[simp] theorem State.endRefill_hid (r : Refill) : (s.endRefill r).hid = s.hid := by unfold State.endRefill; split <;> rfl
@[simp] theorem State.endRefill_inited (r : Refill) : (s.endRefill r).inited = s.inited := by unfold State.endRefill; split <;> rfl
@[simp] theorem State.endRefill_flt (r : Refill) : (s.endRefill r).flt = s.flt := by unfold State.endRefill; split <;> rfl
@[simp] theorem State.endRefill_pb (r : Refill) : (s.endRefill r).pb = s.pb := by unfold State.endRefill; split <;> rfl
@[simp] theorem State.endRefill_tb (r : Refill) : (s.endRefill r).tb = s.tb := by unfold State.endRefill; split <;> rfl
@[simp] theorem State.endRefill_rd (r : Refill) : (s.endRefill r).rd = s.rd := by unfold State.endRefill; split <;> rfl
@[simp] theorem State.endRefill_act (r : Refill) : (s.endRefill r).act = s.act := by unfold State.endRefill; split <;> rfl
@[simp] theorem State.endRefill_pend (r : Refill) : (s.endRefill r).pend = s.pend := by unfold State.endRefill; split <;> rfl
@[simp] theorem State.endRefill_hal (r : Refill) : (s.endRefill r).hal = s.hal := by unfold State.endRefill; split <;> rfl
@[simp] theorem State.endRefill_tx (r : Refill) : (s.endRefill r).tx = s.tx := by unfold State.endRefill; split <;> rfl
@[simp] theorem State.endRefill_resp (r : Refill) : (s.endRefill r).resp = s.resp := by unfold State.endRefill; split <;> rfl
@[simp] theorem State.endRefill_cfg (r : Refill) : (s.endRefill r).cfg = s.cfg := by unfold State.endRefill; split <;> rfl
@[simp] theorem State.endRefill_clk (r : Refill) : (s.endRefill r).clk = s.clk := by unfold State.endRefill; split <;> rfl
@[simp] theorem State.endRefill_readyIn (r : Refill) : (s.endRefill r).readyIn = s.readyIn := by unfold State.endRefill; split <;> rfl
@[simp] theorem State.endRefill_startIn (r : Refill) : (s.endRefill r).startIn = s.startIn := by unfold State.endRefill; split <;> rfl
@[simp] theorem State.endRefill_turns (r : Refill) : (s.endRefill r).turns = s.turns := by unfold State.endRefill; split <;> rfl
@[simp] theorem State.endRefill_held (r : Refill) : (s.endRefill r).held = s.held := by unfold State.endRefill; split <;> rfl
@[simp] theorem State.endRefill_refill (r : Refill) : (s.endRefill r).refill = s.refill := by unfold State.endRefill; split <;> rfl
@[simp] theorem State.endRefill_old (r : Refill) : (s.endRefill r).old = s.old := by unfold State.endRefill; split <;> rfl
@[simp] theorem State.endRefill_epoch (r : Refill) : (s.endRefill r).epoch = s.epoch := by unfold State.endRefill; split <;> rfl
@[simp] theorem State.endRefill_draws (r : Refill) : (s.endRefill r).draws = s.draws := by unfold State.endRefill; split <;> rfl

/-! ### After a whole refill -/

@[simp] theorem State.refillWhole_n (r : Refill) : (s.refillWhole r).n = s.n := by simp [State.refillWhole]
@[simp] theorem State.refillWhole_br (r : Refill) : (s.refillWhole r).br = s.br := by simp [State.refillWhole]
@[simp] theorem State.refillWhole_gam (r : Refill) : (s.refillWhole r).gam = s.gam := by simp [State.refillWhole]
@[simp] theorem State.refillWhole_per (r : Refill) : (s.refillWhole r).per = s.per := by simp [State.refillWhole]
@[simp] theorem State.refillWhole_hi (r : Refill) : (s.refillWhole r).hi = s.hi := by simp [State.refillWhole]
@[simp] theorem State.refillWhole_lo (r : Refill) : (s.refillWhole r).lo = s.lo := by simp [State.refillWhole]
@[simp] theorem State.refillWhole_st (r : Refill) : (s.refillWhole r).st = s.st := by simp [State.refillWhole]
@[simp] theorem State.refillWhole_cur (r : Refill) : (s.refillWhole r).cur = if r.advances then s.cur + 1#17 else s.cur := by simp [State.refillWhole]
@[simp] theorem State.refillWhole_hid (r : Refill) : (s.refillWhole r).hid = s.hid := by simp [State.refillWhole]
@[simp] theorem State.refillWhole_inited (r : Refill) : (s.refillWhole r).inited = s.inited := by simp [State.refillWhole]
@[simp] theorem State.refillWhole_flt (r : Refill) : (s.refillWhole r).flt = s.flt := by simp [State.refillWhole]
@[simp] theorem State.refillWhole_pb (r : Refill) : (s.refillWhole r).pb = s.pb := by simp [State.refillWhole]
@[simp] theorem State.refillWhole_tb (r : Refill) : (s.refillWhole r).tb = Memory.writeFrom s.tb r.slot r.values := by simp [State.refillWhole]
@[simp] theorem State.refillWhole_rd (r : Refill) : (s.refillWhole r).rd = s.rd := by simp [State.refillWhole]
@[simp] theorem State.refillWhole_act (r : Refill) : (s.refillWhole r).act = s.act := by simp [State.refillWhole]
@[simp] theorem State.refillWhole_pend (r : Refill) : (s.refillWhole r).pend = s.pend := by simp [State.refillWhole]
@[simp] theorem State.refillWhole_hal (r : Refill) : (s.refillWhole r).hal = s.hal := by simp [State.refillWhole]
@[simp] theorem State.refillWhole_tx (r : Refill) : (s.refillWhole r).tx = s.tx := by simp [State.refillWhole]
@[simp] theorem State.refillWhole_resp (r : Refill) : (s.refillWhole r).resp = s.resp := by simp [State.refillWhole]
@[simp] theorem State.refillWhole_cfg (r : Refill) : (s.refillWhole r).cfg = s.cfg := by simp [State.refillWhole]
@[simp] theorem State.refillWhole_clk (r : Refill) : (s.refillWhole r).clk = s.clk := by simp [State.refillWhole]
@[simp] theorem State.refillWhole_readyIn (r : Refill) : (s.refillWhole r).readyIn = s.readyIn := by simp [State.refillWhole]
@[simp] theorem State.refillWhole_startIn (r : Refill) : (s.refillWhole r).startIn = s.startIn := by simp [State.refillWhole]
@[simp] theorem State.refillWhole_turns (r : Refill) : (s.refillWhole r).turns = s.turns := by simp [State.refillWhole]
@[simp] theorem State.refillWhole_held (r : Refill) : (s.refillWhole r).held = s.held := by simp [State.refillWhole]
@[simp] theorem State.refillWhole_refill (r : Refill) : (s.refillWhole r).refill = s.refill := by simp [State.refillWhole]
@[simp] theorem State.refillWhole_old (r : Refill) : (s.refillWhole r).old = s.old := by simp [State.refillWhole]
@[simp] theorem State.refillWhole_epoch (r : Refill) : (s.refillWhole r).epoch = s.epoch := by simp [State.refillWhole]
@[simp] theorem State.refillWhole_draws (r : Refill) : (s.refillWhole r).draws = s.draws := by simp [State.refillWhole]

/-! ### After one slot write of a refill -/

@[simp] theorem State.refillSlot_n (r : Refill) : (s.refillSlot r).n = s.n := by unfold State.refillSlot; split <;> simp
@[simp] theorem State.refillSlot_br (r : Refill) : (s.refillSlot r).br = s.br := by unfold State.refillSlot; split <;> simp
@[simp] theorem State.refillSlot_gam (r : Refill) : (s.refillSlot r).gam = s.gam := by unfold State.refillSlot; split <;> simp
@[simp] theorem State.refillSlot_per (r : Refill) : (s.refillSlot r).per = s.per := by unfold State.refillSlot; split <;> simp
@[simp] theorem State.refillSlot_hi (r : Refill) : (s.refillSlot r).hi = s.hi := by unfold State.refillSlot; split <;> simp
@[simp] theorem State.refillSlot_lo (r : Refill) : (s.refillSlot r).lo = s.lo := by unfold State.refillSlot; split <;> simp
@[simp] theorem State.refillSlot_st (r : Refill) : (s.refillSlot r).st = s.st := by unfold State.refillSlot; split <;> simp
@[simp] theorem State.refillSlot_hid (r : Refill) : (s.refillSlot r).hid = s.hid := by unfold State.refillSlot; split <;> simp
@[simp] theorem State.refillSlot_inited (r : Refill) : (s.refillSlot r).inited = s.inited := by unfold State.refillSlot; split <;> simp
@[simp] theorem State.refillSlot_flt (r : Refill) : (s.refillSlot r).flt = s.flt := by unfold State.refillSlot; split <;> simp
@[simp] theorem State.refillSlot_pb (r : Refill) : (s.refillSlot r).pb = s.pb := by unfold State.refillSlot; split <;> simp
@[simp] theorem State.refillSlot_rd (r : Refill) : (s.refillSlot r).rd = s.rd := by unfold State.refillSlot; split <;> simp
@[simp] theorem State.refillSlot_act (r : Refill) : (s.refillSlot r).act = s.act := by unfold State.refillSlot; split <;> simp
@[simp] theorem State.refillSlot_pend (r : Refill) : (s.refillSlot r).pend = s.pend := by unfold State.refillSlot; split <;> simp
@[simp] theorem State.refillSlot_hal (r : Refill) : (s.refillSlot r).hal = s.hal := by unfold State.refillSlot; split <;> simp
@[simp] theorem State.refillSlot_tx (r : Refill) : (s.refillSlot r).tx = s.tx := by unfold State.refillSlot; split <;> simp
@[simp] theorem State.refillSlot_resp (r : Refill) : (s.refillSlot r).resp = s.resp := by unfold State.refillSlot; split <;> simp
@[simp] theorem State.refillSlot_cfg (r : Refill) : (s.refillSlot r).cfg = s.cfg := by unfold State.refillSlot; split <;> simp
@[simp] theorem State.refillSlot_clk (r : Refill) : (s.refillSlot r).clk = s.clk := by unfold State.refillSlot; split <;> simp
@[simp] theorem State.refillSlot_readyIn (r : Refill) : (s.refillSlot r).readyIn = s.readyIn := by unfold State.refillSlot; split <;> simp
@[simp] theorem State.refillSlot_startIn (r : Refill) : (s.refillSlot r).startIn = s.startIn := by unfold State.refillSlot; split <;> simp
@[simp] theorem State.refillSlot_turns (r : Refill) : (s.refillSlot r).turns = s.turns := by unfold State.refillSlot; split <;> simp
@[simp] theorem State.refillSlot_held (r : Refill) : (s.refillSlot r).held = s.held := by unfold State.refillSlot; split <;> simp
@[simp] theorem State.refillSlot_old (r : Refill) : (s.refillSlot r).old = s.old := by unfold State.refillSlot; split <;> simp
@[simp] theorem State.refillSlot_epoch (r : Refill) : (s.refillSlot r).epoch = s.epoch := by unfold State.refillSlot; split <;> simp
@[simp] theorem State.refillSlot_draws (r : Refill) : (s.refillSlot r).draws = s.draws := by unfold State.refillSlot; split <;> simp

/-! ### After staging -/

@[simp] theorem State.stage_n : (s.stage).n = s.n := by unfold State.stage; split_ifs <;> simp
@[simp] theorem State.stage_br : (s.stage).br = s.br := by unfold State.stage; split_ifs <;> simp
@[simp] theorem State.stage_gam : (s.stage).gam = s.gam := by unfold State.stage; split_ifs <;> simp
@[simp] theorem State.stage_per : (s.stage).per = s.per := by unfold State.stage; split_ifs <;> simp
@[simp] theorem State.stage_hi : (s.stage).hi = s.hi := by unfold State.stage; split_ifs <;> simp
@[simp] theorem State.stage_lo : (s.stage).lo = s.lo := by unfold State.stage; split_ifs <;> simp
@[simp] theorem State.stage_st : (s.stage).st = s.st := by unfold State.stage; split_ifs <;> simp
@[simp] theorem State.stage_cur : (s.stage).cur = s.cur := by unfold State.stage; split_ifs <;> simp
@[simp] theorem State.stage_hid : (s.stage).hid = s.hid := by unfold State.stage; split_ifs <;> simp
@[simp] theorem State.stage_inited : (s.stage).inited = s.inited := by unfold State.stage; split_ifs <;> simp
@[simp] theorem State.stage_flt : (s.stage).flt = s.flt := by unfold State.stage; split_ifs <;> simp
@[simp] theorem State.stage_pb : (s.stage).pb = s.pb := by unfold State.stage; split_ifs <;> simp
@[simp] theorem State.stage_rd : (s.stage).rd = s.rd := by unfold State.stage; split_ifs <;> simp
@[simp] theorem State.stage_act : (s.stage).act = s.act := by unfold State.stage; split_ifs <;> simp
@[simp] theorem State.stage_pend : (s.stage).pend = s.pend := by unfold State.stage; split_ifs <;> simp
@[simp] theorem State.stage_hal : (s.stage).hal = s.hal := by unfold State.stage; split_ifs <;> simp
@[simp] theorem State.stage_tx : (s.stage).tx = s.tx := by unfold State.stage; split_ifs <;> simp
@[simp] theorem State.stage_resp : (s.stage).resp = s.resp := by unfold State.stage; split_ifs <;> simp
@[simp] theorem State.stage_cfg : (s.stage).cfg = s.cfg := by unfold State.stage; split_ifs <;> simp
@[simp] theorem State.stage_clk : (s.stage).clk = s.clk := by unfold State.stage; split_ifs <;> simp
@[simp] theorem State.stage_readyIn : (s.stage).readyIn = s.readyIn := by unfold State.stage; split_ifs <;> simp
@[simp] theorem State.stage_startIn : (s.stage).startIn = s.startIn := by unfold State.stage; split_ifs <;> simp
@[simp] theorem State.stage_turns : (s.stage).turns = s.turns := by unfold State.stage; split_ifs <;> simp
@[simp] theorem State.stage_held : (s.stage).held = s.held := by unfold State.stage; split_ifs <;> simp
@[simp] theorem State.stage_refill : (s.stage).refill = s.refill := by unfold State.stage; split_ifs <;> simp
@[simp] theorem State.stage_old : (s.stage).old = s.old := by unfold State.stage; split_ifs <;> simp
@[simp] theorem State.stage_epoch : (s.stage).epoch = s.epoch := by unfold State.stage; split_ifs <;> simp
@[simp] theorem State.stage_draws : (s.stage).draws = s.draws := by unfold State.stage; split_ifs <;> simp

end Sys2Proof.Machine
end

