-- ==== Sys2Proof/Laws/Encoder.lean ====
section
/-! SUPPORT. What the Bit Encoder writes: the value of each slot after an expansion or a reset pattern, and the length
and the range of what is written. -/

namespace Sys2Proof.Machine

@[simp] theorem State.encByte_length (s : State) (v : Byte) : (s.encByte v).length = 8 := rfl

@[simp] theorem State.encBytes_length (s : State) (g r b : Byte) : (s.encBytes g r b).length = 24 := rfl

@[simp] theorem State.pixelValues_length (s : State) (p : Nat) : (s.pixelValues p).length = 24 := rfl

@[simp] theorem State.pixelValuesRacing_length (s : State) (p : Nat) : (s.pixelValuesRacing p).length = 24 := rfl

@[simp] theorem zeroValues_length : zeroValues.length = 24 := rfl

@[simp] theorem zeroValues_getD (i : Nat) : zeroValues.getD i 0 = 0 := by
  rw [zeroValues, List.getD_eq_getElem?_getD, List.getElem?_replicate]
  split_ifs <;> rfl

/-- Element `i` of ENCBYTE is the look-up of bit `7 - i` (42_bit_encoder.md R161). -/
theorem State.encByte_getD (s : State) (v : Byte) (i : Nat) (h : i < 8) :
    (s.encByte v).getD i 0 = s.lut (v.getLsbD (7 - i)) := by
  interval_cases i <;> rfl

/-- Element `8k + i` of a pixel's values is the look-up of bit `7 - i` of its byte `k` (20_memory.md R63). -/
theorem State.encBytes_getD (s : State) (byte : Nat → Byte) (k i : Nat) (hk : k < 3) (hi : i < 8) :
    (s.encBytes (byte 0) (byte 1) (byte 2)).getD (8 * k + i) 0 = s.lut ((byte k).getLsbD (7 - i)) := by
  interval_cases k <;> interval_cases i <;> rfl

/-- The encoder's values are `hi` and `lo`. -/
theorem State.mem_encBytes {s : State} {g r b : Byte} {v : Nat} (h : v ∈ s.encBytes g r b) : v = s.hi ∨ v = s.lo := by
  have lut_cases : ∀ x, s.lut x = s.hi ∨ s.lut x = s.lo := fun x => by cases x <;> simp [State.lut]
  simp only [State.encBytes, State.encByte, List.mem_append, List.mem_cons, List.not_mem_nil, or_false] at h
  rcases h with (h | h) | h <;> rcases h with h | h | h | h | h | h | h | h <;> rw [h] <;> exact lut_cases _

/-- A slot after ZEROHALF (42_bit_encoder.md R163). -/
theorem State.tbRead_zeroHalf (s : State) (base j : Nat) :
    (s.zeroHalf base).tbRead j = if base ≤ j ∧ j < base + 24 then 0 else s.tbRead j := by
  rw [State.zeroHalf, State.tbRead_tbWriteFrom, zeroValues_length, zeroValues_getD]

/-- A slot after ENCPIX (42_bit_encoder.md R162). -/
theorem State.tbRead_encPix (s : State) (p base j : Nat) :
    (s.encPix p base).tbRead j =
      if base ≤ j ∧ j < base + 24 then (s.pixelValues p).getD (j - base) 0 else s.tbRead j := by
  rw [State.encPix, State.tbRead_tbWriteFrom, State.pixelValues_length]

end Sys2Proof.Machine
end

