-- ==== Sys2Proof/Laws/Ops.lean ====
section
/-! SUPPORT. What each shared operation can do, said once: the tests before a command, the guards before a handler, one
round of SHOW's start loop, INIT's three outcomes, the handlers, the engine, and the agents' moves. -/

namespace Sys2Proof.Machine

/-! ### Tests and guards -/

/-- A command that answers passed the refusal tests. -/
theorem State.whenUsable_next {s t : State} {run : Host.Outcome State Fault Refusal}
    (h : s.whenUsable run = .next t) : s.inited = true ∧ s.flt = false ∧ run = .next t := by
  unfold State.whenUsable at h
  split_ifs at h with h1 h2
  exact ⟨by simpa using h1, by simpa using h2, h⟩

/-- A command on a usable Strip runs. -/
theorem State.whenUsable_run {s : State} (run : Host.Outcome State Fault Refusal)
    (hi : s.inited = true) (hf : s.flt = false) : s.whenUsable run = run := by
  simp [State.whenUsable, hi, hf]

/-- A command that answers found a pixel count. -/
theorem State.whenPixels_next {s t : State} {run : Host.Outcome State Fault Refusal}
    (h : s.whenPixels run = .next t) : s.n ≠ 0#16 ∧ run = .next t := by
  unfold State.whenPixels at h
  split_ifs at h with h1
  exact ⟨h1, h⟩

/-- A command on a Strip with pixels runs. -/
theorem State.whenPixels_run {s : State} (run : Host.Outcome State Fault Refusal) (hn : s.n ≠ 0#16) :
    s.whenPixels run = run := by
  simp [State.whenPixels, hn]

/-- A handler either acts or leaves the state as it was. -/
theorem State.guarded_cases (s : State) (e : Byte) (run : State) :
    (s.accepts e = true ∧ s.guarded e run = run) ∨ (s.accepts e = false ∧ s.guarded e run = s) := by
  unfold State.guarded
  cases h : s.accepts e <;> simp

/-- What the guards let through (43_streaming_engine.md R182). -/
theorem State.accepts_iff (s : State) (e : Byte) :
    s.accepts e = true ↔ s.inited = true ∧ e = s.hid ∧ s.cur ≠ 0#17 := by
  simp [State.accepts, and_assoc]

@[simp] theorem State.inData_iff (s : State) : s.inData = true ↔ s.cur.toNat < s.n.toNat := by
  simp [State.inData]

@[simp] theorem State.beforeTerminal_iff (s : State) :
    s.beforeTerminal = true ↔ s.cur.toNat < s.n.toNat + 2 := by
  simp [State.beforeTerminal]

/-- Advancing the cursor never wraps below its terminal value (10_state.md R28). -/
theorem State.advance_cur_toNat (s : State) (h : s.cur.toNat < s.n.toNat + 2) :
    s.advance.cur.toNat = s.cur.toNat + 1 := by
  have hn := s.n.isLt
  rw [State.advance_cur, BitVec.toNat_add]
  have one : (1#17).toNat = 1 := rfl
  rw [one, Nat.mod_eq_of_lt (by norm_num at hn ⊢; omega)]

/-! ### INIT -/

/-- INIT's outcomes: a parameter error, or the finished initialisation with what TIMCALC gave. -/
theorem State.initialise_cases (s : State) (sel hid : Byte) (gam : Bool) (n : Count) :
    s.initialise sel hid gam n = s.failInit ∨
    ∃ f per hi lo, n ≠ 0#16 ∧ n.toNat ≤ s.cfg.nMax.toNat ∧ s.clkFreq sel = some f ∧
      timCalc s.cfg.cntW f = some (per, hi, lo) ∧ s.initialise sel hid gam n = s.finishInit hid gam n per hi lo := by
  unfold State.initialise
  split_ifs with h
  · exact .inl rfl
  · split
    · exact .inl rfl
    · rename_i f hf
      split
      · exact .inl rfl
      · rename_i per hi lo ht
        exact .inr ⟨f, per, hi, lo, fun h0 => h (.inl h0), by omega, hf, ht, rfl⟩

/-! ### SHOW -/

/-- One round of the start loop, by the answer drawn. -/
theorem State.attemptStart_cases (s : State) :
    (s.startResult = .ok ∧ s.attemptStart = (s.drawStartResult.emit [.start]).startShow) ∨
    (s.startResult = .err ∧ s.attemptStart = (s.drawStartResult.emit [.start]).failShow) ∨
    (s.startResult = .busy ∧ s.attemptStart = { s.drawStartResult.emit [.start] with held := true }) := by
  unfold State.attemptStart
  cases s.startResult <;> simp

/-- SHOW's busy test. -/
theorem State.beginShow_cases (s : State) :
    (s.cur ≠ 0#17 ∧ s.beginShow = s.answer .busy) ∨
    (s.cur = 0#17 ∧ s.chReady = false ∧ s.beginShow = s.drawChReady.answer .busy) ∨
    (s.cur = 0#17 ∧ s.chReady = true ∧
      s.beginShow = ((s.drawChReady.stage).emit [.armNotify]).attemptStart) := by
  unfold State.beginShow
  by_cases h : s.cur = 0#17 <;> cases hr : s.chReady <;> simp [h]

/-- Staging writes the Transfer Buffer and nothing else. -/
theorem State.stage_eq (s : State) : s.stage = { s with tb := s.stage.tb } := by
  ext1 <;> simp

/-! ### Handlers -/

/-- HT's refills (43_streaming_engine.md R183). -/
theorem State.firstHalfRefill_cases (s : State) :
    (s.cur.toNat < s.n.toNat ∧
      s.firstHalfRefill = some { slot := 0, values := s.pixelValuesRacing s.cur.toNat, advances := true }) ∨
    (s.n.toNat ≤ s.cur.toNat ∧ s.cur.toNat < s.n.toNat + 2 ∧
      s.firstHalfRefill = some { slot := 0, values := zeroValues, advances := false }) ∨
    (s.n.toNat + 2 ≤ s.cur.toNat ∧ s.firstHalfRefill = none) := by
  unfold State.firstHalfRefill
  by_cases h : s.cur.toNat < s.n.toNat
  · exact .inl ⟨h, by simp [h, firstHalf]⟩
  · by_cases h2 : s.cur.toNat < s.n.toNat + 2
    · exact .inr (.inl ⟨by omega, h2, by simp [h, h2, firstHalf]⟩)
    · exact .inr (.inr ⟨by omega, by simp [h, h2]⟩)

/-- TC's refills (43_streaming_engine.md R184). -/
theorem State.secondHalfRefill_cases (s : State) :
    (s.cur.toNat < s.n.toNat ∧
      s.secondHalfRefill = some { slot := 24, values := s.pixelValuesRacing s.cur.toNat, advances := true }) ∨
    (s.n.toNat ≤ s.cur.toNat ∧ s.cur.toNat < s.n.toNat + 2 ∧
      s.secondHalfRefill = some { slot := 24, values := zeroValues, advances := true }) ∨
    (s.n.toNat + 2 ≤ s.cur.toNat ∧ s.secondHalfRefill = none) := by
  unfold State.secondHalfRefill
  by_cases h : s.cur.toNat < s.n.toNat
  · exact .inl ⟨h, by simp [h, secondHalf, halfLen]⟩
  · by_cases h2 : s.cur.toNat < s.n.toNat + 2
    · exact .inr (.inl ⟨by omega, h2, by simp [h, h2, secondHalf, halfLen]⟩)
    · exact .inr (.inr ⟨by omega, by simp [h, h2]⟩)

/-- HT's three branches (43_streaming_engine.md R183). -/
theorem State.onHalfComplete_cases (s : State) :
    (s.cur.toNat < s.n.toNat ∧
      s.onHalfComplete = (s.tbWriteFrom 0 (s.pixelValuesRacing s.cur.toNat)).advance) ∨
    (s.n.toNat ≤ s.cur.toNat ∧ s.cur.toNat < s.n.toNat + 2 ∧ s.onHalfComplete = s.zeroHalf 0) ∨
    (s.n.toNat + 2 ≤ s.cur.toNat ∧ s.onHalfComplete = s) := by
  unfold State.onHalfComplete
  rcases s.firstHalfRefill_cases with ⟨h, hr⟩ | ⟨h1, h2, hr⟩ | ⟨h, hr⟩ <;> rw [hr]
  · exact .inl ⟨h, rfl⟩
  · exact .inr (.inl ⟨h1, h2, rfl⟩)
  · exact .inr (.inr ⟨h, rfl⟩)

/-- TC's three branches (43_streaming_engine.md R184). -/
theorem State.onComplete_cases (s : State) :
    (s.cur.toNat < s.n.toNat ∧
      s.onComplete = (s.tbWriteFrom 24 (s.pixelValuesRacing s.cur.toNat)).advance) ∨
    (s.n.toNat ≤ s.cur.toNat ∧ s.cur.toNat < s.n.toNat + 2 ∧ s.onComplete = (s.zeroHalf 24).advance) ∨
    (s.n.toNat + 2 ≤ s.cur.toNat ∧ s.onComplete = s.shutdown) := by
  unfold State.onComplete
  rcases s.secondHalfRefill_cases with ⟨h, hr⟩ | ⟨h1, h2, hr⟩ | ⟨h, hr⟩ <;> rw [hr]
  · exact .inl ⟨h, rfl⟩
  · exact .inr (.inl ⟨h1, h2, rfl⟩)
  · exact .inr (.inr ⟨h, rfl⟩)

/-- The one refill an operation can make is HT's or TC's, of an accepted event before the terminal cursor value. -/
theorem State.refillOf_some {s : State} {i : Instr} {r : Refill} (h : s.refillOf i = some r) :
    s.accepts s.hid = true ∧ s.cur.toNat < s.n.toNat + 2 ∧
    ((i = .ht s.hid ∧ s.firstHalfRefill = some r) ∨ (i = .tc s.hid ∧ s.secondHalfRefill = some r)) := by
  cases i with
  | ht e =>
    simp only [State.refillOf] at h
    split_ifs at h with ha
    obtain ⟨hi, rfl, hc⟩ := (s.accepts_iff e).1 ha
    refine ⟨ha, ?_, .inl ⟨rfl, h⟩⟩
    rcases s.firstHalfRefill_cases with ⟨h', -⟩ | ⟨-, h', -⟩ | ⟨-, h'⟩
    · omega
    · exact h'
    · simp [h'] at h
  | tc e =>
    simp only [State.refillOf] at h
    split_ifs at h with ha
    obtain ⟨hi, rfl, hc⟩ := (s.accepts_iff e).1 ha
    refine ⟨ha, ?_, .inr ⟨rfl, h⟩⟩
    rcases s.secondHalfRefill_cases with ⟨h', -⟩ | ⟨-, h', -⟩ | ⟨-, h'⟩
    · omega
    · exact h'
    · simp [h'] at h
  | err e => simp [State.refillOf] at h
  | init sel hid gam n => simp [State.refillOf] at h
  | setpix idx r g b => simp [State.refillOf] at h
  | fill r g b => simp [State.refillOf] at h
  | setbr v => simp [State.refillOf] at h
  | showStrip => simp [State.refillOf] at h
  | queryState => simp [State.refillOf] at h

/-- A handler that makes a refill, run as one transition, makes the whole of it. -/
theorem State.exec_of_refillOf {s : State} {i : Instr} {r : Refill} (h : s.refillOf i = some r) :
    exec i s = .next (s.refillWhole r) := by
  obtain ⟨ha, -, ⟨rfl, hr⟩ | ⟨rfl, hr⟩⟩ := State.refillOf_some h
  · simp [exec, execHt, State.guarded, ha, State.onHalfComplete, hr]
  · simp [exec, execTc, State.guarded, ha, State.onComplete, hr]

/-- One slot write: the first value to its slot; then the rest is left, or the handler ends. -/
theorem State.refillSlot_cons (s : State) (i v : Nat) (vs : List Nat) (adv : Bool) :
    s.refillSlot { slot := i, values := v :: vs, advances := adv } =
      if vs = [] then ({ s.tbWriteFrom i [v] with refill := none }).endRefill ⟨i, v :: vs, adv⟩
      else { s.tbWriteFrom i [v] with refill := some ⟨i + 1, vs, adv⟩ } := by
  cases vs <;> simp [State.refillSlot]

/-! ### Ports and agents -/

/-- A command word either runs the operation it decodes to or is answered PARAM_ERR (30_encoding.md R101). -/
theorem State.runCommand_cases (s : State) (w : CommandWord) :
    (∃ i, decodeCommand w = .ok i ∧ s.runCommand w = exec i s) ∨
    (∃ r, decodeCommand w = .error r ∧ s.runCommand w = .next (s.answer .paramErr)) := by
  unfold State.runCommand
  cases h : decodeCommand w
  · exact .inr ⟨_, rfl, rfl⟩
  · exact .inl ⟨_, rfl, rfl⟩

/-- An event word either runs its handler or is ignored (30_encoding.md R102). -/
theorem State.runEvent_cases (s : State) (e : EventWord) :
    (∃ i, decodeEvent e = .ok i ∧ s.runEvent e = exec i s) ∨
    (∃ r, decodeEvent e = .error r ∧ s.runEvent e = .next s) := by
  unfold State.runEvent
  cases h : decodeEvent e
  · exact .inr ⟨_, rfl, rfl⟩
  · exact .inl ⟨_, rfl, rfl⟩

/-- Only the three handlers are decoded from event words. -/
theorem decodeEvent_cases {e : EventWord} {i : Instr} (h : decodeEvent e = .ok i) :
    i = .ht (bits e 0 8) ∨ i = .tc (bits e 0 8) ∨ i = .err (bits e 0 8) := by
  unfold decodeEvent at h
  split_ifs at h <;> cases h <;> simp

/-- What the handler agent does with an event whose refill it makes slot by slot: it begins the refill, or runs the
handler, or ignores the word. -/
theorem State.beginEvent_cases (s : State) (e : EventWord) :
    (∃ i r, decodeEvent e = .ok i ∧ s.refillOf i = some r ∧ s.beginEvent e = .next { s with refill := some r }) ∨
    s.beginEvent e = s.runEvent e := by
  unfold State.beginEvent State.runEvent
  cases h : decodeEvent e with
  | error r => exact .inr rfl
  | ok i =>
    cases hr : s.refillOf i with
    | none => exact .inr (by simp [hr])
    | some r => exact .inl ⟨i, r, rfl, hr, by simp [hr]⟩

/-- What one step can be: an operation run after the step's bookkeeping while no refill is in progress, a refill begun
or continued, or one of the moves that run no operation. While a SHOW is held the
operation is SHOW or a handler. -/
theorem step_cases (s : State) :
    (s.refill = none ∧
      ∃ i u, (u = s.tick ∨ u = s.popTurn ∨ u = s.popTurn.takeEvent) ∧
        (s.held = true → i = .showStrip ∨ i.isEvent = true) ∧ step s = exec i u) ∨
    (s.refill = none ∧ ∃ i r, s.popTurn.takeEvent.refillOf i = some r ∧
      step s = .next { s.popTurn.takeEvent with refill := some r }) ∨
    (∃ r u, s.refill = some r ∧ (u = s.tick ∨ u = s.popTurn) ∧ step s = .next (u.refillSlot r)) ∨
    step s = .next s.popTurn ∨
    step s = .next (s.popTurn.answer .paramErr) ∨
    step s = .next s.popTurn.takeEvent ∨
    (∃ e, step s = .next (s.popTurn.post e)) ∨
    step s = .next s.popTurn.drain ∨
    (∃ sel f, step s = .next (s.popTurn.setClock sel f)) := by
  unfold step
  cases hr : s.refill with
  | some r =>
    cases s.nextTurn with
    | command w => exact .inr (.inr (.inl ⟨r, _, rfl, .inl rfl, by simp [State.runTurn, State.onThread, hr]⟩))
    | retry => exact .inr (.inr (.inl ⟨r, _, rfl, .inr rfl, by simp [State.runTurn, State.onThread, hr]⟩))
    | handle => exact .inr (.inr (.inl ⟨r, _, rfl, .inr rfl, by simp [State.runTurn, State.onThread, hr]⟩))
    | beginHandler => exact .inr (.inr (.inl ⟨r, _, rfl, .inr rfl, by simp [State.runTurn, State.onThread, hr]⟩))
    | post e => simp [State.runTurn]
    | drain => simp [State.runTurn]
    | clock sel f => simp [State.runTurn]
  | none =>
    have runs : ∀ e, s.popTurn.takeEvent.runEvent e = .next s.popTurn.takeEvent ∨
        ∃ i, i.isEvent = true ∧ s.popTurn.takeEvent.runEvent e = exec i s.popTurn.takeEvent := fun e => by
      rcases s.popTurn.takeEvent.runEvent_cases e with ⟨i, hi, h⟩ | ⟨r, -, h⟩
      · exact .inr ⟨i, by rcases decodeEvent_cases hi with rfl | rfl | rfl <;> rfl, h⟩
      · exact .inl h
    cases s.nextTurn with
    | command w =>
      simp only [State.runTurn, State.onThread, hr]
      split_ifs with hh
      · exact .inl ⟨trivial, _, _, .inl rfl, fun _ => .inl rfl, rfl⟩
      · rcases s.popTurn.runCommand_cases w with ⟨i, -, h⟩ | ⟨r, -, h⟩
        · exact .inl ⟨trivial, i, _, .inr (.inl rfl), fun h' => absurd h' hh, h⟩
        · simp [h]
    | retry =>
      simp only [State.runTurn, State.onThread, hr]
      split_ifs
      · exact .inl ⟨trivial, _, _, .inr (.inl rfl), fun _ => .inl rfl, rfl⟩
      · simp
    | handle =>
      simp only [State.runTurn, State.onThread, hr, State.takeOldest]
      split
      · simp
      · rename_i e _ _
        rcases runs e with h | ⟨i, hi, h⟩
        · simp [h]
        · exact .inl ⟨trivial, i, _, .inr (.inr rfl), fun _ => .inr hi, h⟩
    | beginHandler =>
      simp only [State.runTurn, State.onThread, hr, State.takeOldest]
      split
      · simp
      · rename_i e _ _
        rcases s.popTurn.takeEvent.beginEvent_cases e with ⟨i, r, -, hr', h⟩ | h
        · exact .inr (.inl ⟨trivial, i, r, hr', h⟩)
        · rcases runs e with h' | ⟨i, hi, h'⟩
          · simp [h, h']
          · exact .inl ⟨trivial, i, _, .inr (.inr rfl), fun _ => .inr hi, h.trans h'⟩
    | post e => simp [State.runTurn]
    | drain => simp [State.runTurn]
    | clock sel f => simp [State.runTurn]

/-! ### Runs -/

/-- A run of one step more. -/
theorem run_step {s t : State} (h : step s = .next t) (k : Nat) :
    Host.Core.run Sys2Proof.core (k + 1) s = Host.Core.run Sys2Proof.core k t := by
  have h' : Sys2Proof.core.step s = .next t := h
  simp only [Host.Core.run, h']

/-- A run goes on from where a shorter one ended. -/
theorem run_append {j : Nat} : ∀ {s t : State}, Host.Core.run Sys2Proof.core j s = .next t → ∀ k,
    Host.Core.run Sys2Proof.core (j + k) s = Host.Core.run Sys2Proof.core k t := by
  induction j with
  | zero => intro s t h k; cases h; rw [Nat.zero_add]
  | succ j ih =>
    intro s t h k
    rw [Nat.succ_add]
    cases hs : step s with
    | next u => rw [run_step hs] at h ⊢; exact ih h k
    | fault r => have hs' : Sys2Proof.core.step s = .fault r := hs; simp [Host.Core.run, hs'] at h
    | refused r => have hs' : Sys2Proof.core.step s = .refused r := hs; simp [Host.Core.run, hs'] at h

end Sys2Proof.Machine
end

