-- ==== Sys2Proof/Laws/PerInstr.lean ====
section
/-! SUPPORT. The statements made for every operation, one lemma for each constructor. -/

namespace Sys2Proof

/-- An operation's word is legal: some row of its port's table accepts it (30_encoding.md R106). -/
def Laws.EncodesLegally.Statement (i : Instr) : Prop := i.wellFormed = true

namespace Laws.EncodesLegally

/-- A command word is legal once one row accepts it. -/
theorem of_command_row {w : CommandWord} (row : EncodingRow 64) (hrow : row ∈ commandRows)
    (h : w &&& row.mask = row.pattern) : (PortWord.command w).wellFormed = true :=
  List.any_eq_true.2 ⟨row, hrow, by simp [EncodingRow.accepts, h]⟩

/-- An event word is legal once one row accepts it. -/
theorem of_event_row {e : EventWord} (row : EncodingRow 16) (hrow : row ∈ eventRows)
    (h : e &&& row.mask = row.pattern) : (PortWord.event e).wellFormed = true :=
  List.any_eq_true.2 ⟨row, hrow, by simp [EncodingRow.accepts, h]⟩

/-- An event word's upper byte is its kind. -/
theorem event_bits (kind hid : Byte) {pattern : EventWord} (hp : pattern = BitVec.ofNat 16 (kind.toNat * 256)) :
    eventWord kind hid &&& 0xFF00 = pattern := by
  have hk := kind.isLt
  have hh := hid.isLt
  have pattern_bit : ∀ i, pattern.toNat / 2 ^ i % 2 = (pattern.getLsbD i).toNat := fun i =>
    (getLsbD_eq_iff pattern i _).1 rfl
  have pattern_toNat : pattern.toNat = kind.toNat * 256 := by rw [hp, BitVec.toNat_ofNat]; omega
  refine and_eq_pattern_of_bits ?_ fun i hi hm => ?_
  · refine BitVec.eq_of_getLsbD_eq fun i hi => ?_
    rw [BitVec.getLsbD_and]
    cases hb : pattern.getLsbD i
    · rfl
    · have := (getLsbD_eq_iff pattern i true).1 hb
      rw [pattern_toNat] at this
      interval_cases i <;> first | rfl | (exfalso; simp at this; omega)
  · rw [← pattern_bit, pattern_toNat]
    simp only [eventWord, BitVec.toNat_ofNat, place]
    interval_cases i <;> first | (exfalso; revert hm; decide) | (simp; omega)

theorem init (sel hid : Byte) (gam : Bool) (n : Count) : Statement (.init sel hid gam n) := by
  have hsel := sel.isLt
  have hhid := hid.isLt
  have hn := n.isLt
  have hgam : gam.toNat ≤ 1 := by cases gam <;> simp
  refine of_command_row ⟨0xFF0000FE0000FFFF, 0x0100000000000000⟩ (by decide)
    (and_eq_pattern_of_bits (by decide) fun i hi hm => ?_)
  simp only [BitVec.toNat_ofNat, place, ofBool_toNat]
  interval_cases i <;> first | (exfalso; revert hm; decide) | (simp; omega)

theorem setpix (idx : Count) (r g b : Byte) : Statement (.setpix idx r g b) := by
  have hidx := idx.isLt
  have hr := r.isLt
  have hg := g.isLt
  have hb := b.isLt
  refine of_command_row ⟨0xFFFF0000FF000000, 0x0200000000000000⟩ (by decide)
    (and_eq_pattern_of_bits (by decide) fun i hi hm => ?_)
  simp only [BitVec.toNat_ofNat, place]
  interval_cases i <;> first | (exfalso; revert hm; decide) | (simp; omega)

theorem fill (r g b : Byte) : Statement (.fill r g b) := by
  have hr := r.isLt
  have hg := g.isLt
  have hb := b.isLt
  refine of_command_row ⟨0xFFFFFFFFFF000000, 0x0300000000000000⟩ (by decide)
    (and_eq_pattern_of_bits (by decide) fun i hi hm => ?_)
  simp only [BitVec.toNat_ofNat, place]
  interval_cases i <;> first | (exfalso; revert hm; decide) | (simp; omega)

theorem setbr (v : Byte) : Statement (.setbr v) := by
  have hv := v.isLt
  refine of_command_row ⟨0xFFFFFFFFFFFFFF00, 0x0400000000000000⟩ (by decide)
    (and_eq_pattern_of_bits (by decide) fun i hi hm => ?_)
  simp only [BitVec.toNat_ofNat, place]
  interval_cases i <;> first | (exfalso; revert hm; decide) | (simp; omega)

theorem showStrip : Statement .showStrip := by
  unfold Statement
  decide

theorem queryState : Statement .queryState := by
  unfold Statement
  decide

theorem ht (hid : Byte) : Statement (.ht hid) :=
  of_event_row ⟨0xFF00, 0x0100⟩ (by decide) (event_bits 0x01 hid (by decide))

theorem tc (hid : Byte) : Statement (.tc hid) :=
  of_event_row ⟨0xFF00, 0x0200⟩ (by decide) (event_bits 0x02 hid (by decide))

theorem err (hid : Byte) : Statement (.err hid) :=
  of_event_row ⟨0xFF00, 0x0300⟩ (by decide) (event_bits 0x03 hid (by decide))

end Laws.EncodesLegally

end Sys2Proof
end

