-- ==== Sys2Proof/Laws/PixelBuffer.lean ====
section
/-! SUPPORT. What the Pixel Buffer's shared store does, and the frame of FILL's loop. -/

namespace Sys2Proof.Machine

/-- The Pixel Buffer after the three stores of one pixel (41_pixel_buffer.md R142). -/
theorem State.pbRead_storePixel (s : State) (j : Nat) (r g b : Byte) (a : Nat) :
    (s.storePixel j r g b).pbRead a =
      if a = 3 * j then s.storedGreen g
      else if a = 3 * j + 1 then s.storedRed r
      else if a = 3 * j + 2 then s.storedBlue b
      else s.pbRead a := by
  simp only [State.storePixel, State.pbRead_pbWrite, pixelOffset, bytesPerPixel]
  split_ifs <;> first | rfl | omega

/-- FILL's loop changes the Pixel Buffer and the race record only (41_pixel_buffer.md R143). -/
theorem State.fillPixels_eq (s : State) (r g b : Byte) (k : Nat) :
    s.fillPixels r g b k = { s with pb := (s.fillPixels r g b k).pb, old := (s.fillPixels r g b k).old } := by
  induction k with
  | zero => rfl
  | succ k ih =>
    have fields := State.ext_iff.1 ih
    clear ih
    ext1 <;> simp_all [State.fillPixels]

end Sys2Proof.Machine
end

