-- ==== Sys2Proof/Laws/Timing.lean ====
section
/-! SUPPORT. TIMCALC in naturals: the integer subtraction and the two range tests as one test on the quotient. -/

namespace Sys2Proof.Machine

/-- TIMCALC by the quotient `clock / target` alone (40_timing_calculator.md R121, R126). -/
theorem timCalc_eq (cntW f : Nat) :
    timCalc cntW f =
      if 9 ≤ f / 800000 ∧ f / 800000 ≤ 2 ^ cntW then
        some (f / 800000 - 1, (f / 800000 - 1) * 56 / 100 - 1, (f / 800000 - 1) * 28 / 100 - 1)
      else none := by
  have cast_pow : ((2 ^ cntW : Nat) : Int) = (2 : Int) ^ cntW := by push_cast; rfl
  have sub_toNat : (((f / 800000 : Nat) : Int) - 1).toNat = f / 800000 - 1 := by omega
  unfold timCalc carrierHz periodMin dutyHi dutyLo
  dsimp only
  rw [sub_toNat]
  split_ifs <;> first | rfl | omega

end Sys2Proof.Machine
end

