-- ==== Sys2Proof/Tests/Slice0.lean ====
section
/-! SUPPORT. Tests of the model's own: ill-formed words for each check, words written out from the spec's encodings,
single steps with results from 95_test_vectors.md, and for each statement of Certificates/Slice0/Obligations.lean with
hypotheses a state and operands that meet them. -/

namespace Sys2Proof.Tests

open Sys2Proof Sys2Proof.Machine

/-! ### Small states -/

/-- The Strip of 95_test_vectors.md section 2.5: three pixels, identity 7, thresholds of 72 MHz, channel ready, start
answered S_OK. -/
def idle : State :=
  { State.reset with
    n := 3, br := 255, per := 89, hi := 48, lo := 23, hid := 7, inited := true, epoch := 1
    pb := [(0, 0x11), (1, 0x12), (2, 0x13), (3, 0x21), (4, 0x22), (5, 0x23), (6, 0x31), (7, 0x32), (8, 0x33)]
    clk := [(0, some 72000000), (1, some 4000000), (3, some 52429600000), (9, none)]
    readyIn := [true], startIn := [.ok] }

/-- The same Strip in a show, at a given cursor and read pointer. -/
def busy (cur : Cursor) (rd : Fin 48) : State :=
  { idle with
    st := .busy, cur := cur, act := true, rd := rd
    tb := Memory.writeFrom [] 0 (idle.pixelValues 0 ++ idle.pixelValues 1) }

/-- A one-pixel Strip. -/
def onePixel : State := { idle with n := 1, pb := [(0, 0x00), (1, 0xFF), (2, 0x00)] }

/-- The state an outcome leads to. -/
def after : Host.Outcome State Fault Refusal → Option State
  | .next t => some t
  | .fault _ => none
  | .refused _ => none

/-- A list of Pixel Buffer bytes. -/
def pixelBytes (s : State) (a k : Nat) : List Nat := (List.range k).map fun i => (s.pbRead (a + i)).toNat

/-- A list of Transfer Buffer slots. -/
def slots (s : State) (a k : Nat) : List Nat := (List.range k).map fun i => s.tbRead (a + i)

/-! ### Ill-formed words: one for each check of WellFormed.lean (95_test_vectors.md section 2.4) -/

theorem test_refuses_op_0x00 : (PortWord.command 0x0000000000000000).wellFormed = false := by decide
theorem test_refuses_op_0x07 : (PortWord.command 0x0700000000000000).wellFormed = false := by decide
theorem test_refuses_op_0xFF : (PortWord.command 0xFF00000000000000).wellFormed = false := by decide
theorem test_refuses_init_bit_33 : (PortWord.command 0x0100070200040000).wellFormed = false := by decide
theorem test_refuses_init_bit_0 : (PortWord.command 0x0100070000040001).wellFormed = false := by decide
theorem test_refuses_setpix_bit_48 : (PortWord.command 0x0201000000010203).wellFormed = false := by decide
theorem test_refuses_setpix_bit_24 : (PortWord.command 0x0200000001010203).wellFormed = false := by decide
theorem test_refuses_fill_bit_24 : (PortWord.command 0x0300000001010203).wellFormed = false := by decide
theorem test_refuses_setbr_bit_8 : (PortWord.command 0x0400000000000101).wellFormed = false := by decide
theorem test_refuses_show_bit_0 : (PortWord.command 0x0500000000000001).wellFormed = false := by decide
theorem test_refuses_state_bit_55 : (PortWord.command 0x0680000000000000).wellFormed = false := by decide
theorem test_refuses_kind_0x00 : (PortWord.event 0x0007).wellFormed = false := by decide
theorem test_refuses_kind_0x04 : (PortWord.event 0x0407).wellFormed = false := by decide
theorem test_accepts_a_word_of_each_row :
    ([0x0100070000040000, 0x0200000500123456, 0x0300000000FF0000, 0x040000000000007F, 0x0500000000000000,
      0x0600000000000000].all fun w => (PortWord.command w).wellFormed) = true ∧
    ([0x0107, 0x0207, 0x0307].all fun e => (PortWord.event e).wellFormed) = true := by decide

/-! ### Decoding: a word of each operation, written out from 30_encoding.md R91 and R98 field by field -/

/-- op 0x01, sel 0x02, hid 0x21, reserved and gam 1, n 5, reserved (program P3). -/
theorem test_decode_init :
    decodeCommand 0b00000001_00000010_00100001_0000000_1_0000000000000101_0000000000000000 =
      .ok (.init 0x02 0x21 true 5) := by decide
/-- op 0x02, reserved, idx 5, reserved, r 0x12, g 0x34, b 0x56. -/
theorem test_decode_setpix :
    decodeCommand 0b00000010_00000000_0000000000000101_00000000_00010010_00110100_01010110 =
      .ok (.setpix 5 0x12 0x34 0x56) := by decide
/-- op 0x03, reserved, r 1, g 2, b 3. -/
theorem test_decode_fill :
    decodeCommand 0b00000011_00000000000000000000000000000000_00000001_00000010_00000011 =
      .ok (.fill 1 2 3) := by decide
/-- op 0x04, reserved, v 0x7F. -/
theorem test_decode_setbr :
    decodeCommand 0b00000100_000000000000000000000000000000000000000000000000_01111111 =
      .ok (.setbr 0x7F) := by decide
theorem test_decode_show : decodeCommand 0x0500000000000000 = .ok .showStrip := by decide
theorem test_decode_state : decodeCommand 0x0600000000000000 = .ok .queryState := by decide
/-- kind 0x01, hid 0x21. -/
theorem test_decode_ht : decodeEvent 0b00000001_00100001 = .ok (.ht 0x21) := by decide
theorem test_decode_tc : decodeEvent 0b00000010_00100001 = .ok (.tc 0x21) := by decide
theorem test_decode_err : decodeEvent 0b00000011_00100001 = .ok (.err 0x21) := by decide
theorem test_decode_rejects_by_name :
    decodeCommand 0x0700000000000000 = .error (.illegalOpcode 0x07) ∧
    decodeCommand 0x0500000000000001 = .error .reservedBits ∧
    decodeEvent 0x0407 = .error (.unknownKind 0x04) := by decide
theorem test_decode_table_word :
    decodeTableWord 64 0x0100FF01FFFF0000 = some (.init 0 255 true 65535) ∧
    decodeTableWord 16 0x0307 = some (.err 7) := by decide
/-- 30_encoding.md R104. -/
theorem test_text : (Instr.setpix 5 0x12 0x34 0x56).text = "SETPIX 5, 18, 52, 86" ∧ (Instr.ht 7).text = "ev HT 7" := by
  decide

/-! ### Single operations, with results from 95_test_vectors.md sections 2.1 to 2.6 -/

/-- Section 2.1, first row of the INIT table. -/
theorem test_init_ok :
    (after (exec (.init 0 7 false 4) { idle with inited := false })).map
        (fun t => ([t.per, t.hi, t.lo, t.n.toNat, t.cur.toNat], t.hal, t.resp)) =
      some ([89, 48, 23, 4, 0], [.setPeriod 89, .update], [.ok]) := by decide
/-- Section 2.1: `INIT 1, 7, 0, 4`, P = 4 below P_MIN. -/
theorem test_init_param_err :
    (after (exec (.init 1 7 false 4) idle)).map (fun t => (t.inited, t.n.toNat, t.hal, t.resp)) =
      some (false, 3, [], [.paramErr]) := by decide
/-- Section 2.1, TIMCALC boundaries with CNT_W = 16 and 8. -/
theorem test_timcalc :
    timCalc 16 7199999 = none ∧ timCalc 16 7200000 = some (8, 3, 1) ∧ timCalc 16 80800000 = some (100, 55, 27) ∧
    timCalc 16 52428800000 = some (65535, 36698, 18348) ∧ timCalc 16 52429600000 = none ∧
    timCalc 8 204800000 = some (255, 141, 70) ∧ timCalc 8 205600000 = none ∧ timCalc 16 0 = none := by decide
/-- Section 2.2: `n 5, br 127, gam 1`, `SETPIX 8, 200, 100, 50` stores (34, 100, 23) in pixel 3. -/
theorem test_setpix_scales_and_wraps :
    (after (exec (.setpix 8 200 100 50) { idle with n := 5, br := 127, gam := true })).map
        (fun t => (pixelBytes t 9 3, pixelBytes t 0 3)) =
      some ([34, 100, 23], [0x11, 0x12, 0x13]) := by decide
/-- Section 2.2: `n 4, br 127, gam 1`, `SETPIX 0, 0, 3, 0` stores 0: scale first, then gamma. -/
theorem test_setpix_scale_before_gamma :
    (after (exec (.setpix 0 0 3 0) { idle with br := 127, gam := true })).map (fun t => pixelBytes t 0 3) =
      some [0, 0, 0] := by decide
/-- Section 2.2: `n = 3`, `FILL 1, 2, 3`. -/
theorem test_fill :
    (after (exec (.fill 1 2 3) idle)).map (fun t => pixelBytes t 0 9) = some [2, 1, 3, 2, 1, 3, 2, 1, 3] := by decide
/-- Section 2.2: SETBR leaves the Pixel Buffer as it was. -/
theorem test_setbr :
    (after (exec (.setbr 127) idle)).map (fun t => (t.br.toNat, t.pb == idle.pb)) = some (127, true) := by decide
/-- Section 2.5, first row: the actions and the first half's second byte, 0x12. -/
theorem test_show_starts :
    (after (exec .showStrip idle)).map (fun t => (t.cur.toNat, t.act, t.hal, slots t 8 8)) =
      some (2, true, [.armNotify, .start, .outEnable, .counterEnable], [23, 23, 23, 48, 23, 23, 48, 23]) := by decide
/-- Section 2.5, fifth row: StartResult S_ERR. -/
theorem test_show_hardware_error :
    (after (exec .showStrip { idle with startIn := [.err] })).map
        (fun t => (t.flt, t.act, t.cur.toNat, t.hal, t.resp)) =
      some (true, false, 0, [.armNotify, .start], [.hwErr]) := by decide
/-- Section 2.5: cursor 2 of 3, HT: E(2) in the first half, cursor 3. -/
theorem test_ht_data :
    (after (exec (.ht 7) (busy 2 24))).map (fun t => (t.cur.toNat, slots t 0 8, slots t 24 3)) =
      some (3, [23, 23, 48, 48, 23, 23, 23, 48], [23, 23, 48]) := by decide
/-- Section 2.5: cursor 4, HT: zeros in the first half, cursor stays. -/
theorem test_ht_reset :
    (after (exec (.ht 7) (busy 4 24))).map (fun t => (t.cur.toNat, slots t 22 3)) = some (4, [0, 0, 23]) := by decide
/-- Section 2.5: cursor 4, TC: zeros in the second half, cursor 5. -/
theorem test_tc_reset :
    (after (exec (.tc 7) (busy 4 0))).map (fun t => (t.cur.toNat, slots t 23 2, slots t 47 1)) =
      some (5, [48, 0], [0]) := by decide
/-- Section 2.5: cursor 5, TC on a break-capable timer: shutdown. -/
theorem test_tc_shutdown :
    (after (exec (.tc 7) { busy 5 0 with cfg := { idle.cfg with breakCapable := true } })).map
        (fun t => (t.st, t.cur.toNat, t.act, t.hal, slots t 3 1)) =
      some (.ready, 0, false, [.dmaRequestDisable, .abort, .mainOutputDisable, .counterDisable], [48]) := by decide
/-- Section 2.5: cursor 3, ERR. -/
theorem test_err :
    (after (exec (.err 7) (busy 3 0))).map (fun t => (t.flt, t.st, t.cur.toNat)) = some (true, .busy, 3) := by decide
/-- Section 2.6. -/
theorem test_state :
    (after (exec .queryState idle)).map (·.resp) = some [.ready] ∧
    (after (exec .queryState (busy 2 0))).map (·.resp) = some [.busy] := by decide
/-- 43_streaming_engine.md R196: the last slot of the first half is handed over and HT is posted. -/
theorem test_drain_posts_ht :
    (after (step { busy 2 23 with turns := [.drain] })).map (fun t => (t.rd.val, t.tx, t.pend)) =
      some (24, [48], [0x0107]) := by decide
/-- 93_implementation_defined.md U2: HT begins a refill of the first half, with all 24 slots to write; and one slot write
of a refill in progress changes one slot and leaves the cursor. -/
theorem test_refill_slot_by_slot :
    (after (step { busy 2 24 with pend := [0x0107], turns := [.beginHandler] })).map
        (fun t => (t.pend, t.cur.toNat, t.refill.map fun r => (r.slot, r.values.length, r.advances))) =
      some ([], 2, some (0, 24, true)) ∧
    (after (step { busy 2 0 with refill := some ⟨0, [48, 0], true⟩, turns := [.handle] })).map
        (fun t => (slots t 0 2, t.cur.toNat, t.refill)) = some ([48, 23], 2, some ⟨1, [0], true⟩) := by decide
/-- Section 2.4: an illegal word on an uninitialised Strip, program P4 row 1. -/
theorem test_illegal_word :
    (after (step (State.reset.withFetchWord 64 0))).map (fun t => (t.resp, t.inited)) = some ([.paramErr], false) := by
  decide
/-- A word placed at power-on runs: INIT executes, HT is ignored, SHOW is refused by name. -/
theorem test_first_step_after_reset :
    (after (step (State.reset.withFetchWord 64 0x0100070000040000))).isSome = true ∧
    (after (step (State.reset.withFetchWord 16 0x0107))).map (·.pend) = some [] ∧
    (match step (State.reset.withFetchWord 64 0x0500000000000000) with
      | .refused .notInitialised => true
      | _ => false) = true := by decide

/-! ### Witnesses: for each statement with hypotheses, states and operands that meet all of them together, clause by
clause, at the edges of each clause's range -/

/-- A state whose next move is the given one. -/
def moving (t : Turn) (s : State) : State := { s with turns := [t] }

/-- The Strip of `idle` with a SHOW held in its start loop and the given answer queued. -/
def heldShow (r : StartResult) : State := { idle with held := true, readyIn := [], startIn := [r] }

theorem witness_EncodeOfDecode :
    decode (.command 0x0100FF01FFFF0000) = .ok (.init 0 255 true 65535) ∧ decode (.event 0x03FF) = .ok (.err 255) := by
  decide
theorem witness_StepRunsDecodedInstruction_command :
    (moving (.command 0x040000000000007F) idle).nextTurn = .command 0x040000000000007F ∧
    (moving (.command 0x040000000000007F) idle).held = false ∧
    (moving (.command 0x040000000000007F) idle).refill = none ∧
    decodeCommand 0x040000000000007F = .ok (.setbr 127) := by decide
theorem witness_StepRunsDecodedInstruction_handle :
    ([Turn.handle, .beginHandler].all fun m =>
      decide ((moving m { busy 2 24 with pend := [0x0107, 0x0207] }).nextTurn = m ∧
        (moving m { busy 2 24 with pend := [0x0107, 0x0207] }).pend = 0x0107 :: [0x0207] ∧
        (moving m { busy 2 24 with pend := [0x0107, 0x0207] }).refill = none)) = true ∧
    decodeEvent 0x0107 = .ok (.ht 7) ∧
    ((busy 2 24).refillOf (.ht 7)).isSome = true ∧ ((busy 5 24).refillOf (.ht 7)).isSome = false := by decide
theorem witness_StepRunsDecodedInstruction_held :
    (moving (.command 0x0600000000000000) (heldShow .ok)).nextTurn = .command 0x0600000000000000 ∧
    (moving (.command 0x0600000000000000) (heldShow .ok)).held = true ∧
    (moving (.command 0x0600000000000000) (heldShow .ok)).refill = none ∧
    (moving .retry (heldShow .busy)).nextTurn = .retry ∧ (moving .retry (heldShow .busy)).held = true ∧
    (moving .retry (heldShow .busy)).refill = none := by decide
theorem witness_PlacedWordRunsNext :
    decodeTableWord 64 0x0200000500123456 = some (.setpix 5 0x12 0x34 0x56) ∧
    decodeTableWord 16 0x0207 = some (.tc 7) := by decide
theorem witness_IllegalCommandWordAnswered_illegal :
    ([0x0000000000000000, 0x0700000000000000, 0xFF00000000000000, 0x0100000200000000, 0x0100008000000000,
      0x0100000000000001, 0x0100000000008000, 0x0201000000000000, 0x0280000000000000, 0x0200000001000000,
      0x0200000080000000, 0x0300000001000000, 0x0380000000000000, 0x0400000000000100, 0x0480000000000000,
      0x0500000000000001, 0x0600000000000001, 0x0680000000000000].all
        fun w => decide (illegalCommandWord w)) = true ∧
    (moving (.command 0x0500000000000001) idle).nextTurn = .command 0x0500000000000001 ∧
    (moving (.command 0x0500000000000001) idle).held = false ∧
    (moving (.command 0x0500000000000001) idle).refill = none := by decide
theorem witness_IllegalCommandWordAnswered_legal :
    ([0x01FFFF01FFFF0000, 0x0200FFFF00FFFFFF, 0x0300000000FFFFFF, 0x04000000000000FF, 0x0500000000000000,
      0x0600000000000000].all fun w => decide (¬ illegalCommandWord w)) = true := by decide
theorem witness_UnknownEventIgnored :
    ([Turn.handle, .beginHandler].all fun m =>
      decide ((moving m { idle with pend := [0x00FF, 0x0107] }).nextTurn = m ∧
        (moving m { idle with pend := [0x00FF, 0x0107] }).refill = none)) = true ∧
    (0x00FF : EventWord).toNat / 256 = 0 ∧ 4 ≤ (0x0400 : EventWord).toNat / 256 ∧
    4 ≤ (0xFF07 : EventWord).toNat / 256 := by decide
theorem witness_EnvironmentMovesTouchOnlyInputs :
    (moving (.post 0x0107) idle).nextTurn = .post 0x0107 ∧
    (moving (.clock 0 (some 48000000)) idle).nextTurn = .clock 0 (some 48000000) ∧
    (moving (.clock 0 (some 48000000)) idle).clkFreq 3 = some 52429600000 ∧
    (moving .handle idle).nextTurn = .handle ∧ (moving .beginHandler idle).nextTurn = .beginHandler ∧
    idle.pend = [] ∧ idle.refill = none ∧
    (moving .drain idle).nextTurn = .drain ∧ (moving .drain idle).act = false ∧
    (moving .retry idle).nextTurn = .retry ∧ (moving .retry idle).held = false := by decide
theorem witness_CommandsAnswerTheirCodes :
    ([Instr.init 0 7 false 4, .init 1 7 false 4, .setpix 0 1 2 3, .fill 1 2 3, .setbr 1, .showStrip, .queryState, .ht 7,
      .tc 7, .err 7].all fun i => (after (exec i idle)).isSome) = true ∧
    (after (exec .showStrip (heldShow .busy))).isSome = true ∧ (after (exec .showStrip (busy 2 0))).isSome = true ∧
    (after (exec .showStrip (heldShow .err))).isSome = true := by decide
theorem witness_TimCalcThresholdsOrdered :
    timCalc 16 7200000 = some (8, 3, 1) ∧ timCalc 16 52429599999 = some (65535, 36698, 18348) := by decide
theorem witness_InitEstablishesReadyStrip :
    idle.cur = 0#17 ∧ (4 : Count) ≠ 0#16 ∧ (65535 : Count).toNat ≤ idle.cfg.nMax.toNat ∧
    idle.clkFreq 0 = some 72000000 ∧ 7200000 ≤ 72000000 ∧ 72000000 < 800000 * (2 ^ idle.cfg.cntW + 1) ∧
    State.reset.inited = false := by decide
theorem witness_InitParameterErrorChangesNothingElse :
    State.reset.inited = false ∧ idle.cur = 0#17 ∧
    ({ idle with cfg := { idle.cfg with nMax := 10 } } : State).cfg.nMax.toNat < (11 : Count).toNat ∧
    idle.clkFreq 9 = none ∧ (idle.clkFreq 1 = some 4000000 ∧ 4000000 < 7200000) ∧
    (idle.clkFreq 3 = some 52429600000 ∧ 800000 * (2 ^ idle.cfg.cntW + 1) ≤ 52429600000) := by decide
theorem witness_InitRefusedDuringShow : (busy 2 0).inited = true ∧ (busy 2 0).cur ≠ 0#17 := by decide
theorem witness_BrightnessDividesChannel : 128 ≤ (128 : Byte).toNat ∧ (0 : Byte).toNat = 0 := by decide
theorem witness_GammaScalesGreenAndBlueOnly : ({ idle with gam := true } : State).gam = true ∧ idle.gam = false := by
  decide
theorem witness_BrightnessIsMonotonic :
    ({ idle with br := 127 } : State).br.toNat ≤ ({ idle with br := 128 } : State).br.toNat ∧
    ({ idle with br := 127 } : State).gam = ({ idle with br := 128 } : State).gam := by decide
/-- READY and BUSY. -/
theorem witness_SetpixStoresOnePixel :
    idle.inited = true ∧ idle.flt = false ∧ idle.n ≠ 0#16 ∧ 1 = 256 / (idle.br.toNat + 1) ∧
    2 = (65534 : Count).toNat % idle.n.toNat ∧
    idle.st = .ready ∧
    (busy 2 0).inited = true ∧ (busy 2 0).flt = false ∧ (busy 2 0).n ≠ 0#16 ∧ (busy 2 0).st = .busy := by decide
theorem witness_FillStoresEveryPixel :
    idle.inited = true ∧ idle.flt = false ∧ 1 = 256 / (idle.br.toNat + 1) ∧ 2 < idle.n.toNat ∧ idle.st = .ready ∧
    (busy 2 0).inited = true ∧ (busy 2 0).flt = false ∧ 1 = 256 / ((busy 2 0).br.toNat + 1) ∧
    (busy 2 0).st = .busy := by decide
theorem witness_SetbrSetsBrightnessOnly : (busy 3 5).inited = true ∧ (busy 3 5).flt = false := by decide
theorem witness_SetpixIndexWraps :
    (3 : Count).toNat % idle.n.toNat = (0 : Count).toNat % idle.n.toNat ∧
    (65535 : Count).toNat % idle.n.toNat = (0 : Count).toNat % idle.n.toNat := by decide
theorem witness_SetpixIsIdempotent : (after (exec (.setpix 4 1 2 3) idle)).isSome = true := by decide
theorem witness_ShowBusyHasNoSideEffect :
    ((busy 2 0).inited = true ∧ (busy 2 0).flt = false ∧ (busy 2 0).n ≠ 0#16 ∧ (busy 2 0).held = false ∧
      (busy 2 0).cur ≠ 0#17) ∧
    (idle.inited = true ∧ idle.flt = false ∧ idle.n ≠ 0#16 ∧ idle.held = false ∧ idle.cur = 0#17 ∧
      ({ idle with readyIn := [false] } : State).chReady = false) := by decide
theorem witness_ShowStagesFirstPixels :
    (idle.inited = true ∧ idle.flt = false ∧ idle.n ≠ 0#16 ∧ idle.held = false ∧ idle.cur = 0#17 ∧
      idle.chReady = true ∧ 2 ≤ idle.n.toNat) ∧
    (onePixel.inited = true ∧ onePixel.flt = false ∧ onePixel.n ≠ 0#16 ∧ onePixel.held = false ∧ onePixel.cur = 0#17 ∧
      onePixel.chReady = true ∧ onePixel.n.toNat = 1) := by decide
theorem witness_ShowStartsTransfer :
    onePixel.inited = true ∧ onePixel.flt = false ∧ onePixel.n ≠ 0#16 ∧ onePixel.held = false ∧ onePixel.cur = 0#17 ∧
    onePixel.chReady = true ∧ onePixel.startResult = .ok := by decide
theorem witness_ShowHardwareErrorMarksStrip :
    let s : State := { idle with startIn := [.err] }
    s.inited = true ∧ s.flt = false ∧ s.n ≠ 0#16 ∧ s.held = false ∧ s.cur = 0#17 ∧ s.chReady = true ∧
    s.startResult = .err := by decide
theorem witness_ShowRetriesUntilAnswered :
    (let s : State := { idle with startIn := [.busy] }
     s.inited = true ∧ s.flt = false ∧ s.n ≠ 0#16 ∧ s.held = false ∧ s.cur = 0#17 ∧ s.chReady = true ∧
     s.startResult = .busy) ∧
    ([StartResult.busy, .ok, .err].all fun r =>
      decide ((heldShow r).inited = true ∧ (heldShow r).flt = false ∧ (heldShow r).n ≠ 0#16 ∧ (heldShow r).held = true ∧
        (heldShow r).startResult = r)) = true := by decide
theorem witness_UnacceptedNotificationIgnored :
    State.reset.inited = false ∧ (9 : Byte) ≠ (busy 2 0).hid ∧ idle.cur = 0#17 := by decide
/-- `n` is 3: cursor 2 is the last of the data phase, 3 and 4 are the reset phase, 5 is the terminal value. -/
theorem witness_HtRefillsFirstHalf :
    (let s := busy 2 24; s.inited = true ∧ s.cur ≠ 0#17 ∧ s.cur.toNat < s.n.toNat) ∧
    ([busy 3 24, busy 4 24].all fun s =>
      decide (s.inited = true ∧ s.cur ≠ 0#17 ∧ s.n.toNat ≤ s.cur.toNat ∧ s.cur.toNat < s.n.toNat + 2)) = true ∧
    (let s := busy 5 24; s.inited = true ∧ s.cur ≠ 0#17 ∧ s.n.toNat + 2 ≤ s.cur.toNat) := by decide
theorem witness_TcRefillsSecondHalf :
    (let s := busy 2 0; s.inited = true ∧ s.cur ≠ 0#17 ∧ s.cur.toNat < s.n.toNat) ∧
    ([busy 3 0, busy 4 0].all fun s =>
      decide (s.inited = true ∧ s.cur ≠ 0#17 ∧ s.n.toNat ≤ s.cur.toNat ∧ s.cur.toNat < s.n.toNat + 2)) = true ∧
    (let s := busy 5 0; s.inited = true ∧ s.cur ≠ 0#17 ∧ s.n.toNat + 2 ≤ s.cur.toNat) := by decide
theorem witness_TerminalTcShutsDown :
    (busy 5 0).inited = true ∧ (busy 5 0).cur ≠ 0#17 ∧ (busy 5 0).n.toNat + 2 ≤ (busy 5 0).cur.toNat := by decide
theorem witness_ErrMarksFaultOnly : (busy 3 7).inited = true ∧ (busy 3 7).cur ≠ 0#17 := by decide
theorem witness_CursorMovesAsTabled :
    ([busy 2 0, busy 3 0, busy 4 0, busy 5 0, idle].all fun s =>
      (after (exec (.ht 7) s)).isSome && (after (exec (.tc 7) s)).isSome && (after (exec .showStrip s)).isSome) = true ∧
    (after (exec (.init 0 7 false 4) idle)).map (·.resp) = some [.ok] ∧
    (after (exec (.init 1 7 false 4) idle)).map (·.resp) = some [.paramErr] := by decide
/-- The last slot and the first slot of each half. -/
theorem witness_DrainHandsOverOneSlot :
    ([(0 : Fin 48), 23, 24, 47].all fun rd =>
      decide ((moving .drain (busy 2 rd)).nextTurn = .drain ∧ (moving .drain (busy 2 rd)).act = true ∧
        (moving .drain (busy 2 rd)).flt = false)) = true := by decide
theorem witness_DrainAfterErrHandsOverSomeValue :
    ([(0 : Fin 48), 23, 24, 47].all fun rd =>
      let s := moving .drain { busy 2 rd with flt := true }
      decide (s.nextTurn = .drain ∧ s.act = true ∧ s.flt = true)) = true := by decide
/-- A refill with values left after this write, and one at its last write. -/
theorem witness_RefillWritesOneSlotPerMove :
    ([Turn.command 0x0600000000000000, .retry, .handle, .beginHandler].all fun m =>
      decide ((moving m { busy 2 24 with refill := some ⟨22, 48 :: [23], true⟩ }).nextTurn = m ∧
        (moving m { busy 4 24 with refill := some ⟨23, 0 :: [], false⟩ }).nextTurn = m)) = true := by decide
theorem witness_RefillInStepsIsTheHandler :
    ([(busy 2 24, (0x0107 : EventWord)), (busy 4 0, 0x0207)].all fun p =>
      let s := { p.1 with pend := [p.2] }
      decide (s.refill = none ∧ s.pend = p.2 :: [] ∧ (p.2 = eventWord 0x01 s.hid ∨ p.2 = eventWord 0x02 s.hid) ∧
        s.inited = true ∧ s.cur ≠ 0#17 ∧ s.cur.toNat < s.n.toNat + 2 ∧
        (after (step { s with turns := .handle :: [] })).isSome = true)) = true := by decide
/-- HT with the engine back in the first half, and TC with the engine back in the second. -/
theorem witness_DrainDuringRefillHandsOverOldOrNew :
    (let s := { busy 2 5 with pend := [0x0107] }
     10 < 24 ∧ s.refill = none ∧ s.pend = eventWord 0x01 s.hid :: [] ∧ s.inited = true ∧ s.cur ≠ 0#17 ∧
     s.cur.toNat < s.n.toNat + 2 ∧ s.act = true ∧ s.flt = false ∧
     (after (step { s with turns := .handle :: [] })).isSome = true ∧ 0 ≤ s.rd.val ∧ s.rd.val < 0 + 10) ∧
    (let s := { busy 4 47 with pend := [0x0207] }
     23 < 24 ∧ s.refill = none ∧ s.pend = eventWord 0x02 s.hid :: [] ∧ s.inited = true ∧ s.cur ≠ 0#17 ∧
     s.cur.toNat < s.n.toNat + 2 ∧ s.act = true ∧ s.flt = false ∧
     (after (step { s with turns := .handle :: [] })).isSome = true ∧ ¬ s.rd.val < 24 + 23) := by decide
theorem witness_HalfDrainPostsOneNotification :
    (let s : State := { busy 2 0 with turns := List.replicate 24 Turn.drain ++ [.handle] }
     s.turns = List.replicate 24 Turn.drain ++ [.handle] ∧ s.act = true ∧ s.flt = false ∧ s.rd.val = 0) ∧
    (let s : State := { busy 2 24 with turns := List.replicate 24 Turn.drain }
     s.turns = List.replicate 24 Turn.drain ++ [] ∧ s.act = true ∧ s.flt = false ∧ s.rd.val = 24) := by decide
/-- One pixel (odd, four halves) and two pixels (even, six halves). -/
theorem witness_ShowTransmitsWholeFrame :
    ([(onePixel, 4), ({ idle with n := 2 }, 6)].all fun p =>
      let s : State := { p.1 with turns := .command 0x0500000000000000 :: nominalTurns p.2 }
      decide (s.inited = true ∧ s.flt = false ∧ s.n ≠ 0#16 ∧ s.held = false ∧ s.cur = 0#17 ∧ s.pend = [] ∧ s.old = [] ∧
        s.refill = none ∧ s.popTurn.chReady = true ∧ s.popTurn.startResult = .ok ∧
        p.2 = s.n.toNat + zeroHalves s.n.toNat ∧
        s.turns = .command 0x0500000000000000 :: (nominalTurns p.2 ++ []))) = true := by decide
theorem witness_StateAnswersStripState :
    (idle.inited = true ∧ idle.flt = false ∧ idle.st = .ready) ∧
    ((busy 2 0).inited = true ∧ (busy 2 0).flt = false ∧ (busy 2 0).st = .busy) := by decide
theorem witness_CommandsNeedUsableStrip :
    Instr.showStrip.isEvent = false ∧ State.reset.inited = false ∧
    ({ idle with flt := true } : State).inited = true ∧ ({ idle with flt := true } : State).flt = true := by decide
theorem witness_EmptyStripFaults :
    ({ idle with n := 0 } : State).inited = true ∧ ({ idle with n := 0 } : State).flt = false ∧
    ({ idle with n := 0 } : State).n = 0#16 := by decide
/-- A Strip in the middle of a show meets the invariant. -/
theorem witness_Inv_busy : (moving .drain (busy 2 24)).Inv := by constructor <;> decide
/-- So does one whose handler is inside a refill. -/
theorem witness_Inv_refilling :
    (moving .drain { busy 4 24 with refill := some ⟨46, [0, 0], true⟩ }).Inv := by constructor <;> decide
theorem witness_StepKeepsInvariant : (after (step (moving .drain (busy 2 24)))).isSome = true := by decide
/-- Another such state, an idle Strip with pixels written. -/
theorem witness_NoFaultUnderInvariant : idle.Inv := by constructor <;> decide
theorem witness_OnlyInitRebinds :
    ([Instr.setpix 1 2 3 4, .fill 1 2 3, .setbr 1, .showStrip, .queryState, .ht 7, .tc 7, .err 7].all fun i =>
      (after (exec i (busy 2 24))).isSome) = true := by decide
theorem witness_OperationsKeepToTheirState :
    Instr.queryState.isEvent = false ∧ (Instr.tc 7).isEvent = true ∧
    ([Instr.init 0 7 false 4, .setpix 1 2 3 4, .fill 1 2 3, .setbr 1, .showStrip, .queryState, .ht 7, .tc 7, .err 7].all
      fun i => (after (exec i idle)).isSome) = true := by decide
theorem witness_BrightnessDoesNotReachTheStream : (Instr.ht 7).isEvent = true := by decide
theorem witness_TracesOnlyGrow :
    ((after (step (moving (.command 0x0500000000000000) idle))).map (·.tx.length)) = some 0 ∧
    ((after (step (moving .drain (busy 2 0)))).map (·.tx.length)) = some 1 := by decide

end Sys2Proof.Tests
end

