-- ==== Sys2Proof/Proofs/State.lean ====
section
/-! PROOF. The statements about the state: power-on, and how each operation moves the Fill Cursor (10_state.md R29,
R44). -/

namespace Sys2Proof.Machine

/-! ### INIT -/

/-- INIT that completes set the cursor to 0 and answered OK, or kept it and answered PARAM_ERR (10_state.md R29,
40_timing_calculator.md R120). -/
theorem execInit_cur_resp {s t : State} {sel hid : Byte} {gam : Bool} {n : Count}
    (h : execInit sel hid gam n s = .next t) :
    (t.cur = 0#17 ∧ t.resp = s.resp ++ [.ok]) ∨ (t.cur = s.cur ∧ t.resp = s.resp ++ [.paramErr]) := by
  unfold execInit at h
  split_ifs at h
  cases h
  rcases s.initialise_cases sel hid gam n with hfail | ⟨f, per, hi, lo, -, -, -, -, hfinish⟩
  · exact .inr ⟨by rw [hfail]; rfl, by rw [hfail]; rfl⟩
  · exact .inl ⟨by rw [hfinish]; rfl, by rw [hfinish]; rfl⟩

/-! ### The Pixel Buffer's commands and the query -/

theorem execSetpix_cur {s t : State} {idx : Count} {r g b : Byte} (h : execSetpix idx r g b s = .next t) :
    t.cur = s.cur := by
  obtain ⟨-, -, hrun⟩ := State.whenUsable_next h
  obtain ⟨-, hrun⟩ := State.whenPixels_next hrun
  cases hrun
  simp

theorem execFill_cur {s t : State} {r g b : Byte} (h : execFill r g b s = .next t) : t.cur = s.cur := by
  obtain ⟨-, -, hrun⟩ := State.whenUsable_next h
  cases hrun
  rw [State.answer_cur, State.fillPixels_eq]

theorem execSetbr_cur {s t : State} {v : Byte} (h : execSetbr v s = .next t) : t.cur = s.cur := by
  obtain ⟨-, -, hrun⟩ := State.whenUsable_next h
  cases hrun
  rfl

theorem execState_cur {s t : State} (h : execState s = .next t) : t.cur = s.cur := by
  obtain ⟨-, -, hrun⟩ := State.whenUsable_next h
  cases hrun
  rfl

/-! ### SHOW -/

/-- One round of the start loop sets the cursor to 2 exactly where it answers OK. -/
theorem State.attemptStart_cur (s : State) :
    s.attemptStart.cur = if s.attemptStart.resp = s.resp ++ [.ok] then 2#17 else s.cur := by
  rcases s.attemptStart_cases with ⟨-, h⟩ | ⟨-, h⟩ | ⟨-, h⟩ <;> rw [h]
  · simp [State.startShow]
  · simp [State.failShow]
  · simp

/-- SHOW from its busy test on sets the cursor to 2 exactly where it answers OK. -/
theorem State.beginShow_cur (s : State) :
    s.beginShow.cur = if s.beginShow.resp = s.resp ++ [.ok] then 2#17 else s.cur := by
  rcases s.beginShow_cases with ⟨-, h⟩ | ⟨-, -, h⟩ | ⟨-, -, h⟩ <;> rw [h]
  · simp
  · simp
  · simp [State.attemptStart_cur]

theorem execShow_cur {s t : State} (h : execShow s = .next t) :
    t.cur = if t.resp = s.resp ++ [.ok] then 2#17 else s.cur := by
  obtain ⟨-, -, hrun⟩ := State.whenUsable_next h
  obtain ⟨-, hrun⟩ := State.whenPixels_next hrun
  cases hrun
  cases s.held
  · exact s.beginShow_cur
  · exact s.attemptStart_cur

/-! ### The handlers -/

/-- HT advances the cursor in the data phase only (43_streaming_engine.md R183). -/
theorem State.onHalfComplete_cur (s : State) :
    if s.cur.toNat < s.n.toNat then s.onHalfComplete.cur.toNat = s.cur.toNat + 1
    else s.onHalfComplete.cur = s.cur := by
  rcases s.onHalfComplete_cases with ⟨hdata, h⟩ | ⟨hpast, -, h⟩ | ⟨hpast, h⟩ <;> rw [h]
  · have hbefore : s.cur.toNat < s.n.toNat + 2 := by omega
    rw [if_pos hdata]
    simpa using (s.tbWriteFrom 0 (s.pixelValuesRacing s.cur.toNat)).advance_cur_toNat (by simpa using hbefore)
  · rw [if_neg (by omega), State.zeroHalf_cur]
  · rw [if_neg (by omega)]

/-- TC advances the cursor up to its terminal value, and there sets it to 0 (43_streaming_engine.md R184, R185). -/
theorem State.onComplete_cur (s : State) :
    if s.cur.toNat < s.n.toNat + 2 then s.onComplete.cur.toNat = s.cur.toNat + 1 else s.onComplete.cur = 0#17 := by
  rcases s.onComplete_cases with ⟨hdata, h⟩ | ⟨-, hreset, h⟩ | ⟨hterminal, h⟩ <;> rw [h]
  · have hbefore : s.cur.toNat < s.n.toNat + 2 := by omega
    rw [if_pos hbefore]
    simpa using (s.tbWriteFrom 24 (s.pixelValuesRacing s.cur.toNat)).advance_cur_toNat (by simpa using hbefore)
  · rw [if_pos hreset]
    simpa using (s.zeroHalf 24).advance_cur_toNat (by simpa using hreset)
  · rw [if_neg (by omega)]
    rfl

theorem execHt_cur {s t : State} {e : Byte} (h : execHt e s = .next t) :
    if s.inited = true ∧ e = s.hid ∧ s.cur ≠ 0#17 ∧ s.cur.toNat < s.n.toNat
    then t.cur.toNat = s.cur.toNat + 1 else t.cur = s.cur := by
  cases h
  rcases s.guarded_cases e s.onHalfComplete with ⟨hacc, hrun⟩ | ⟨hacc, hrun⟩ <;> rw [hrun]
  · obtain ⟨hinit, hhid, hcur⟩ := (s.accepts_iff e).1 hacc
    simpa [hinit, hhid, hcur] using s.onHalfComplete_cur
  · have hguards : ¬(s.inited = true ∧ e = s.hid ∧ s.cur ≠ 0#17) := by simp [← s.accepts_iff, hacc]
    rw [if_neg (by tauto)]

theorem execTc_cur {s t : State} {e : Byte} (h : execTc e s = .next t) :
    if s.inited = true ∧ e = s.hid ∧ s.cur ≠ 0#17 then
      if s.cur.toNat < s.n.toNat + 2 then t.cur.toNat = s.cur.toNat + 1 else t.cur = 0#17
    else t.cur = s.cur := by
  cases h
  simp only [← s.accepts_iff]
  rcases s.guarded_cases e s.onComplete with ⟨hacc, hrun⟩ | ⟨hacc, hrun⟩ <;> rw [hrun]
  · rw [if_pos hacc]
    exact s.onComplete_cur
  · simp [hacc]

theorem execErr_cur {s t : State} {e : Byte} (h : execErr e s = .next t) : t.cur = s.cur := by
  cases h
  rcases s.guarded_cases e { s with flt := true } with ⟨-, hrun⟩ | ⟨-, hrun⟩ <;> rw [hrun]

/-! ### The obligations -/

/-- Settles O34, one operation at a time. -/
theorem cursorMovesAsTabled : Obligations.CursorMovesAsTabled := by
  intro s t i h
  cases i with
  | init sel hid gam n =>
    rcases execInit_cur_resp h with ⟨hcur, hresp⟩ | ⟨hcur, hresp⟩
    · exact ⟨fun _ => hcur, fun hparam => by simp [hresp] at hparam⟩
    · exact ⟨fun hok => by simp [hresp] at hok, fun _ => hcur⟩
  | setpix idx r g b => exact execSetpix_cur h
  | fill r g b => exact execFill_cur h
  | setbr v => exact execSetbr_cur h
  | showStrip => exact execShow_cur h
  | queryState => exact execState_cur h
  | ht e => exact execHt_cur h
  | tc e => exact execTc_cur h
  | err e => exact execErr_cur h

/-- Settles O45: the reset state's fields as 10_state.md R44 gives them. -/
theorem resetIsPowerOn : Obligations.ResetIsPowerOn :=
  ⟨rfl, rfl, rfl, rfl, rfl, rfl⟩

end Sys2Proof.Machine
end

