-- ==== Sys2Proof/Proofs/Encoding.lean ====
section
/-! PROOF. The statements about the words no operation is decoded from: illegal command words (30_encoding.md R101) and
event words of unknown kind (R102). -/

namespace Sys2Proof

/-! ### Reserved fields as masks -/

/-- The word of width `w` whose 1 bits are exactly the field of `len` bits at bit `lo`. -/
def fieldMask (w lo len : Nat) : BitVec w := (BitVec.allOnes len).setWidth w <<< lo

theorem getElem_fieldMask {w i : Nat} (lo len : Nat) (hi : i < w) :
    (fieldMask w lo len)[i] = decide (lo ≤ i ∧ i < lo + len) := by
  rw [Bool.eq_iff_iff, fieldMask, BitVec.getElem_shiftLeft]
  simp
  omega

/-- A field is 0 exactly where the word has no bit in common with the field's mask. -/
theorem bits_eq_zero_iff {w : Nat} (x : BitVec w) (lo len : Nat) :
    bits x lo len = 0 ↔ x &&& fieldMask w lo len = 0 := by
  constructor
  · intro hfield
    refine BitVec.eq_of_getElem_eq fun i hi => ?_
    by_cases hin : lo ≤ i ∧ i < lo + len
    · obtain ⟨k, rfl⟩ := Nat.exists_eq_add_of_le hin.1
      have hbit : (bits x lo len).getLsbD k = false := by rw [hfield]; exact BitVec.getLsbD_zero
      have hk : k < len := by omega
      simpa [bits, getElem_fieldMask, hk, hi] using hbit
    · simp [getElem_fieldMask, hin]
  · intro hword
    refine BitVec.eq_of_getElem_eq fun k hk => ?_
    by_cases hi : lo + k < w
    · have hbit : (x &&& fieldMask w lo len)[lo + k] = false := by simp only [hword]; exact BitVec.getElem_zero hi
      simpa [bits, getElem_fieldMask, hk, hi] using hbit
    · simp [bits, BitVec.getLsbD_of_ge x (lo + k) (by omega)]

/-- Two fields are both 0 exactly where the word has no bit in common with either mask. -/
theorem bits_eq_zero_and_iff {w : Nat} (x : BitVec w) (lo len lo' len' : Nat) :
    (bits x lo len = 0 ∧ bits x lo' len' = 0) ↔ x &&& (fieldMask w lo len ||| fieldMask w lo' len') = 0 := by
  rw [bits_eq_zero_iff, bits_eq_zero_iff, BitVec.and_or_distrib_left]
  exact BitVec.or_eq_zero_iff.symm

/-! ### Which command words decode -/

theorem ifReserved_ok_iff (zero : Bool) (i : Instr) : (∃ j, ifReserved zero i = .ok j) ↔ zero = true := by
  cases zero <;> simp [ifReserved]

/-- A format with one reserved field decodes the words that have no bit in common with the field's mask. -/
theorem ifReserved_field_ok_iff {w lo len : Nat} {x mask : BitVec w} (i : Instr) (hmask : mask = fieldMask w lo len) :
    (∃ j, ifReserved (bits x lo len == 0) i = .ok j) ↔ x &&& mask = 0 := by
  rw [ifReserved_ok_iff, beq_iff_eq, bits_eq_zero_iff, hmask]

/-- A format with two reserved fields decodes the words that have no bit in common with either field's mask. -/
theorem ifReserved_fields_ok_iff {w lo len lo' len' : Nat} {x mask : BitVec w} (i : Instr)
    (hmask : mask = fieldMask w lo len ||| fieldMask w lo' len') :
    (∃ j, ifReserved (bits x lo len == 0 && bits x lo' len' == 0) i = .ok j) ↔ x &&& mask = 0 := by
  rw [ifReserved_ok_iff, Bool.and_eq_true, beq_iff_eq, beq_iff_eq, bits_eq_zero_and_iff, hmask]

theorem decodeInit_ok_iff (w : CommandWord) : (∃ i, decodeInit w = .ok i) ↔ w &&& 0x000000FE0000FFFF = 0 :=
  ifReserved_fields_ok_iff _ (by decide)

theorem decodeSetpix_ok_iff (w : CommandWord) : (∃ i, decodeSetpix w = .ok i) ↔ w &&& 0x00FF0000FF000000 = 0 :=
  ifReserved_fields_ok_iff _ (by decide)

theorem decodeFill_ok_iff (w : CommandWord) : (∃ i, decodeFill w = .ok i) ↔ w &&& 0x00FFFFFFFF000000 = 0 :=
  ifReserved_field_ok_iff _ (by decide)

theorem decodeSetbr_ok_iff (w : CommandWord) : (∃ i, decodeSetbr w = .ok i) ↔ w &&& 0x00FFFFFFFFFFFF00 = 0 :=
  ifReserved_field_ok_iff _ (by decide)

theorem decodeBare_ok_iff (i : Instr) (w : CommandWord) :
    (∃ j, decodeBare i w = .ok j) ↔ w &&& 0x00FFFFFFFFFFFFFF = 0 :=
  ifReserved_field_ok_iff _ (by decide)

/-- The `op` field is the command word's upper byte (30_encoding.md R91). -/
theorem bits_op_eq_iff (w : CommandWord) (op : Byte) : bits w 56 8 = op ↔ w.toNat / 2 ^ 56 = op.toNat := by
  rw [bits_eq_iff, Nat.mod_eq_of_lt (by have := w.isLt; omega)]

/-- The command decoder answers exactly the words that are not illegal (30_encoding.md R101). -/
theorem decodeCommand_ok_iff (w : CommandWord) : (∃ i, decodeCommand w = .ok i) ↔ ¬ Machine.illegalCommandWord w := by
  simp only [decodeCommand, Machine.illegalCommandWord, bits_op_eq_iff]
  generalize w.toNat / 2 ^ 56 = op
  split_ifs with hinit hsetpix hfill hsetbr hshow hstate
  · subst hinit; simp [decodeInit_ok_iff]
  · subst hsetpix; simp [decodeSetpix_ok_iff]
  · subst hfill; simp [decodeFill_ok_iff]
  · subst hsetbr; simp [decodeSetbr_ok_iff]
  · subst hshow; simp [decodeBare_ok_iff]
  · subst hstate; simp [decodeBare_ok_iff]
  · have hunknown : op = 0 ∨ 7 ≤ op := by simp only [BitVec.toNat_ofNat] at *; omega
    simp [hunknown]

/-! ### Which event words decode -/

/-- The `kind` field is the event word's upper byte (30_encoding.md R98). -/
theorem bits_kind_eq_iff (e : EventWord) (kind : Byte) : bits e 8 8 = kind ↔ e.toNat / 2 ^ 8 = kind.toNat := by
  rw [bits_eq_iff, Nat.mod_eq_of_lt (by have := e.isLt; omega)]

/-- The event decoder rejects a word whose kind is none of 1, 2 and 3 (30_encoding.md R102). -/
theorem decodeEvent_of_unknown_kind {e : EventWord} (h : e.toNat / 256 = 0 ∨ 4 ≤ e.toNat / 256) :
    decodeEvent e = .error (.unknownKind (bits e 8 8)) := by
  have hkind : ∀ kind : Byte, 1 ≤ kind.toNat → kind.toNat ≤ 3 → bits e 8 8 ≠ kind := fun kind hlo hhi heq => by
    have := (bits_kind_eq_iff e kind).1 heq
    omega
  rw [decodeEvent, if_neg (hkind 0x01#8 (by decide) (by decide)), if_neg (hkind 0x02#8 (by decide) (by decide)),
    if_neg (hkind 0x03#8 (by decide) (by decide))]

namespace Machine

/-! ### What a move on a port runs while the thread is free -/

/-- The host's word reaches the command port where no SHOW is held and no refill is in progress. -/
theorem step_of_command {s : State} {w : CommandWord} (hturn : s.nextTurn = .command w) (hheld : s.held = false)
    (hfree : s.refill = none) : step s = s.popTurn.runCommand w := by
  simp [step, hturn, State.runTurn, State.onThread, hfree, hheld]

/-- The oldest event is taken and run by the handler agent's move where no refill is in progress. -/
theorem step_of_handle {s : State} {e : EventWord} {es : List EventWord} (hturn : s.nextTurn = .handle)
    (hfree : s.refill = none) (hpend : s.pend = e :: es) : step s = s.popTurn.takeEvent.runEvent e := by
  simp [step, hturn, State.runTurn, State.onThread, hfree, State.takeOldest, hpend]

/-- The oldest event is taken and begun by the handler agent's other move where no refill is in progress. -/
theorem step_of_beginHandler {s : State} {e : EventWord} {es : List EventWord} (hturn : s.nextTurn = .beginHandler)
    (hfree : s.refill = none) (hpend : s.pend = e :: es) : step s = s.popTurn.takeEvent.beginEvent e := by
  simp [step, hturn, State.runTurn, State.onThread, hfree, State.takeOldest, hpend]

/-- Taking the oldest event in a step leaves the later ones and changes nothing else but the step's bookkeeping. -/
theorem State.popTurn_takeEvent_eq {s : State} {e : EventWord} {es : List EventWord} (hpend : s.pend = e :: es) :
    s.popTurn.takeEvent = { s with turns := s.turns.tail, draws := s.draws + 1, pend := es } := by
  simp [State.takeEvent, State.popTurn, hpend]

/-! ### Words that carry no operation -/

/-- An illegal command word is only answered PARAM_ERR (30_encoding.md R101). -/
theorem State.runCommand_of_illegal (s : State) {w : CommandWord} (h : illegalCommandWord w) :
    s.runCommand w = .next (s.answer .paramErr) := by
  rcases s.runCommand_cases w with ⟨i, hok, -⟩ | ⟨r, -, hrun⟩
  · exact absurd h ((decodeCommand_ok_iff w).1 ⟨i, hok⟩)
  · exact hrun

/-- An event word that does not decode leaves the state as it is (30_encoding.md R102). -/
theorem State.runEvent_of_error (s : State) {e : EventWord} {r : Reject} (h : decodeEvent e = .error r) :
    s.runEvent e = .next s := by
  rcases s.runEvent_cases e with ⟨i, hok, -⟩ | ⟨-, -, hrun⟩
  · cases h.symm.trans hok
  · exact hrun

/-- The same where the handler agent is to make a refill slot by slot. -/
theorem State.beginEvent_of_error (s : State) {e : EventWord} {r : Reject} (h : decodeEvent e = .error r) :
    s.beginEvent e = .next s := by
  rcases s.beginEvent_cases e with ⟨i, -, hok, -, -⟩ | hrun
  · cases h.symm.trans hok
  · exact hrun.trans (s.runEvent_of_error h)

/-! ### The obligations -/

/-- Settles O7: the decoder's domain is the complement of the illegal words, and the command port answers what it
rejects. -/
theorem illegalCommandWordAnswered : Obligations.IllegalCommandWordAnswered := by
  intro w
  constructor
  · intro hillegal s hturn hheld hfree
    rw [step_of_command hturn hheld hfree, State.runCommand_of_illegal _ hillegal]
    rfl
  · exact (decodeCommand_ok_iff w).2

/-- Settles O8, for each of the handler agent's two moves. -/
theorem unknownEventIgnored : Obligations.UnknownEventIgnored := by
  intro s e es hturn hfree hpend hkind
  have hreject := decodeEvent_of_unknown_kind hkind
  rw [← State.popTurn_takeEvent_eq hpend]
  rcases hturn with hturn | hturn
  · rw [step_of_handle hturn hfree hpend, State.runEvent_of_error _ hreject]
  · rw [step_of_beginHandler hturn hfree hpend, State.beginEvent_of_error _ hreject]

end Machine
end Sys2Proof
end

