-- ==== Sys2Proof/Proofs/PixelBuffer.lean ====
section
/-! PROOF. The statements about what the Pixel Buffer's commands store: gamma after scaling (41_pixel_buffer.md R141),
and the brightness command (R144). -/

namespace Sys2Proof.Machine

/-! ### Gamma -/

/-- A byte times `m` over 256, truncated, is below `m`. -/
theorem byte_mul_div_lt (c : Byte) {m : Nat} (hm : 0 < m) : c.toNat * m / 256 < m :=
  Nat.div_lt_of_lt_mul (Nat.mul_lt_mul_of_pos_right c.isLt hm)

/-- A gamma multiplier of at most 256 keeps the product over 256 a byte, so storing it in 8 bits loses nothing. -/
theorem toNat_ofNat_byte_mul_div (c : Byte) {m : Nat} (hm : 0 < m) (hle : m ≤ 256) :
    (BitVec.ofNat 8 (c.toNat * m / 256)).toNat = c.toNat * m / 256 := by
  rw [BitVec.toNat_ofNat]
  exact Nat.mod_eq_of_lt ((byte_mul_div_lt c hm).trans_le hle)

@[simp] theorem gammaGreen_toNat (g : Byte) : (gammaGreen g).toNat = g.toNat * 176 / 256 :=
  toNat_ofNat_byte_mul_div g (by decide) (by decide)

@[simp] theorem gammaBlue_toNat (b : Byte) : (gammaBlue b).toNat = b.toNat * 240 / 256 :=
  toNat_ofNat_byte_mul_div b (by decide) (by decide)

theorem gammaGreen_toNat_le (g : Byte) : (gammaGreen g).toNat ≤ 175 := by
  rw [gammaGreen_toNat]
  exact Nat.le_of_lt_succ (byte_mul_div_lt g (by decide))

theorem gammaBlue_toNat_le (b : Byte) : (gammaBlue b).toNat ≤ 239 := by
  rw [gammaBlue_toNat]
  exact Nat.le_of_lt_succ (byte_mul_div_lt b (by decide))

/-! ### The stored bytes, with gamma and without -/

theorem State.storedGreen_of_gam {s : State} (hgam : s.gam = true) (g : Byte) :
    s.storedGreen g = gammaGreen (scale g s.br) := if_pos hgam

theorem State.storedGreen_of_not_gam {s : State} (hgam : s.gam = false) (g : Byte) :
    s.storedGreen g = scale g s.br := if_neg (by simp [hgam])

theorem State.storedBlue_of_gam {s : State} (hgam : s.gam = true) (b : Byte) :
    s.storedBlue b = gammaBlue (scale b s.br) := if_pos hgam

theorem State.storedBlue_of_not_gam {s : State} (hgam : s.gam = false) (b : Byte) :
    s.storedBlue b = scale b s.br := if_neg (by simp [hgam])

/-! ### SETBR -/

theorem execSetbr_of_usable {s : State} (v : Byte) (hinit : s.inited = true) (hflt : s.flt = false) :
    execSetbr v s = .next (({ s with br := v }).answer .ok) :=
  State.whenUsable_run _ hinit hflt

/-! ### The obligations -/

/-- Settles O17: the two multipliers by the lemma for every multiplier up to 256, then the two gamma settings. -/
theorem gammaScalesGreenAndBlueOnly : Obligations.GammaScalesGreenAndBlueOnly := fun _ c =>
  ⟨gammaGreen_toNat c, gammaGreen_toNat_le c, gammaBlue_toNat c, gammaBlue_toNat_le c, rfl,
    fun hgam => ⟨State.storedGreen_of_gam hgam c, State.storedBlue_of_gam hgam c⟩,
    fun hgam => ⟨State.storedGreen_of_not_gam hgam c, State.storedBlue_of_not_gam hgam c⟩⟩

/-- Settles O21: on a usable Strip the refusal tests pass, and what runs sets `br` and answers. -/
theorem setbrSetsBrightnessOnly : Obligations.SetbrSetsBrightnessOnly := fun _ v hinit hflt =>
  execSetbr_of_usable v hinit hflt

end Sys2Proof.Machine
end

