-- ==== Sys2Proof/Proofs/Streaming.lean ====
section
/-! PROOF. The statements about SHOW's busy test, its staging and its start (43_streaming_engine.md R177, R178, R180),
about the handlers' guards (R182), and about ERR (R186). -/

namespace Sys2Proof.Machine

/-! ### SHOW's tests -/

/-- A SHOW that passes the refusal tests goes on with its start loop where it is held, and else begins. -/
theorem execShow_of_usable {s : State} (hinit : s.inited = true) (hflt : s.flt = false) (hn : s.n ≠ 0#16) :
    execShow s = .next (if s.held then s.attemptStart else s.beginShow) :=
  (State.whenUsable_run _ hinit hflt).trans (State.whenPixels_run _ hn)

theorem execShow_of_not_held {s : State} (hinit : s.inited = true) (hflt : s.flt = false) (hn : s.n ≠ 0#16)
    (hheld : s.held = false) : execShow s = .next s.beginShow := by
  simp [execShow_of_usable hinit hflt hn, hheld]

theorem State.beginShow_of_cur_ne {s : State} (hcur : s.cur ≠ 0#17) : s.beginShow = s.answer .busy :=
  if_pos hcur

theorem State.beginShow_of_not_ready {s : State} (hcur : s.cur = 0#17) (hready : s.chReady = false) :
    s.beginShow = s.drawChReady.answer .busy := by
  simp [State.beginShow, hcur, hready]

theorem State.beginShow_of_ready {s : State} (hcur : s.cur = 0#17) (hready : s.chReady = true) :
    s.beginShow = (s.drawChReady.stage.emit [.armNotify]).attemptStart := by
  simp [State.beginShow, hcur, hready]

/-! ### The staged slots -/

/-- Element `8k + i` of pixel `p`'s values is `hi` or `lo` by bit `7 - i` of the pixel's byte `k` (42_bit_encoder.md
R160 to R162). -/
theorem State.pixelValues_getD (s : State) (p : Nat) {k i : Nat} (hk : k < 3) (hi : i < 8) :
    (s.pixelValues p).getD (8 * k + i) 0 = if (s.pbRead (3 * p + k)).getLsbD (7 - i) then s.hi else s.lo :=
  s.encBytes_getD (fun k => s.pbRead (pixelOffset p k)) k i hk hi

@[simp] theorem State.pixelValues_tbWriteFrom (s : State) (i : Nat) (vs : List Nat) (p : Nat) :
    (s.tbWriteFrom i vs).pixelValues p = s.pixelValues p := rfl

@[simp] theorem State.pixelValues_drawChReady (s : State) (p : Nat) :
    s.drawChReady.pixelValues p = s.pixelValues p := rfl

@[simp] theorem State.tbRead_drawChReady (s : State) (j : Nat) : s.drawChReady.tbRead j = s.tbRead j := rfl

@[simp] theorem State.tbRead_emit (s : State) (as : List Action) (j : Nat) : (s.emit as).tbRead j = s.tbRead j := rfl

theorem State.stage_of_two_le {s : State} (hn : 2 ≤ s.n.toNat) : s.stage = (s.encPix 0 0).encPix 1 24 := if_pos hn

theorem State.stage_of_lt_two {s : State} (hn : s.n.toNat < 2) : s.stage = (s.encPix 0 0).zeroHalf 24 :=
  if_neg (Nat.not_le.2 hn)

/-- A slot after staging: the two halves, and the slots beyond them (43_streaming_engine.md R178). -/
theorem State.tbRead_stage (s : State) (j : Nat) :
    s.stage.tbRead j =
      if j < 24 then (s.pixelValues 0).getD j 0
      else if j < 48 then (if 2 ≤ s.n.toNat then (s.pixelValues 1).getD (j - 24) 0 else 0)
      else s.tbRead j := by
  by_cases hn : 2 ≤ s.n.toNat
  · have hvalues : (s.encPix 0 0).pixelValues 1 = s.pixelValues 1 := State.pixelValues_tbWriteFrom ..
    rw [State.stage_of_two_le hn, State.tbRead_encPix, State.tbRead_encPix, hvalues]
    grind
  · rw [State.stage_of_lt_two (by omega), State.tbRead_zeroHalf, State.tbRead_encPix]
    grind

/-- A round of the start loop writes no slot, whatever it is answered. -/
theorem State.tbRead_attemptStart (s : State) (j : Nat) : s.attemptStart.tbRead j = s.tbRead j := by
  rcases s.attemptStart_cases with ⟨-, h⟩ | ⟨-, h⟩ | ⟨-, h⟩ <;> rw [h] <;> rfl

/-- A SHOW that passes its busy test leaves in each slot what staging put there, whatever the start attempt answers. -/
theorem State.tbRead_beginShow_of_ready {s : State} (hcur : s.cur = 0#17) (hready : s.chReady = true) (j : Nat) :
    s.beginShow.tbRead j = s.stage.tbRead j := by
  rw [State.beginShow_of_ready hcur hready, State.tbRead_attemptStart]
  simp [State.tbRead_stage]

/-! ### The start -/

/-- A start attempt answered S_OK (43_streaming_engine.md R180). -/
theorem State.attemptStart_of_ok {s : State} (hstart : s.startResult = .ok) :
    s.attemptStart = { s with
      startIn := s.startIn.tail, held := false
      act := true, rd := 0, st := .busy, cur := 2#17
      hal := s.hal ++ [.start, .outEnable, .counterEnable], resp := s.resp ++ [.ok] } := by
  simp [State.attemptStart, hstart, State.startShow, State.drawStartResult, State.emit, State.answer]

/-- Neither the draw of ChReady nor the staging reaches what the start attempt answers. -/
theorem State.startResult_staged (s : State) (as : List Action) :
    (s.drawChReady.stage.emit as).startResult = s.startResult := by
  simp [State.startResult]

/-- A fresh SHOW whose start attempt is answered S_OK changes, besides the slots, only the fields of
43_streaming_engine.md R180. -/
theorem State.beginShow_of_start_ok {s : State} (hheld : s.held = false) (hcur : s.cur = 0#17)
    (hready : s.chReady = true) (hstart : s.startResult = .ok) :
    s.beginShow = { s with
      tb := s.beginShow.tb, readyIn := s.readyIn.tail, startIn := s.startIn.tail
      act := true, rd := 0, st := .busy, cur := 2#17
      hal := s.hal ++ [.armNotify, .start, .outEnable, .counterEnable]
      resp := s.resp ++ [.ok] } := by
  have hstart' := (s.startResult_staged [.armNotify]).trans hstart
  rw [State.beginShow_of_ready hcur hready, State.attemptStart_of_ok hstart']
  ext1 <;> simp [hheld]

/-! ### The handlers' guards -/

theorem State.guarded_of_accepts {s : State} {e : Byte} (run : State) (hacc : s.accepts e = true) :
    s.guarded e run = run := if_pos hacc

theorem State.guarded_of_not_accepts {s : State} {e : Byte} (run : State) (hacc : s.accepts e = false) :
    s.guarded e run = s := if_neg (by simp [hacc])

/-- Each of the three guards refuses on its own (43_streaming_engine.md R182). -/
theorem State.accepts_eq_false {s : State} {e : Byte} (h : s.inited = false ∨ e ≠ s.hid ∨ s.cur = 0#17) :
    s.accepts e = false := by
  rw [← Bool.not_eq_true, State.accepts_iff]
  rintro ⟨hinit, hhid, hcur⟩
  rcases h with h | h | h
  · simp [hinit] at h
  · exact h hhid
  · exact hcur h

/-! ### The obligations -/

/-- Settles O25: what the start attempt answers leaves the staged slots alone, and those are read pixel by pixel. -/
theorem showStagesFirstPixels : Obligations.ShowStagesFirstPixels := by
  intro s hinit hflt hn hheld hcur hready
  refine ⟨s.beginShow, execShow_of_not_held hinit hflt hn hheld, ?_⟩
  simp only [State.tbRead_beginShow_of_ready hcur hready, State.tbRead_stage]
  refine ⟨fun k i hk hi => ?_, fun hpixels k i hk hi => ?_, fun hpixels j hlo hhi => ?_, fun j hbeyond => ?_⟩
  · rw [if_pos (by omega), State.pixelValues_getD s 0 hk hi, Nat.mul_zero, Nat.zero_add]
  · have hslot : 24 + 8 * k + i - 24 = 8 * k + i := by omega
    rw [if_neg (by omega), if_pos (by omega), if_pos hpixels, hslot, State.pixelValues_getD s 1 hk hi]
  · rw [if_neg (by omega), if_pos hhi, if_neg (by omega)]
  · rw [if_neg (by omega), if_neg (by omega)]

/-- Settles O26: the fresh SHOW's state after the busy test, the staging and the accepted start. -/
theorem showStartsTransfer : Obligations.ShowStartsTransfer := fun s hinit hflt hn hheld hcur hready hstart =>
  ⟨s.beginShow, execShow_of_not_held hinit hflt hn hheld, State.beginShow_of_start_ok hheld hcur hready hstart⟩

/-- Settles O24, for each of the two causes of a busy answer. -/
theorem showBusyHasNoSideEffect : Obligations.ShowBusyHasNoSideEffect := by
  intro s hinit hflt hn hheld
  have hrun : exec .showStrip s = .next s.beginShow := execShow_of_not_held hinit hflt hn hheld
  rw [hrun]
  constructor
  · intro hcur
    rw [State.beginShow_of_cur_ne hcur]
    rfl
  · intro hcur hready
    rw [State.beginShow_of_not_ready hcur hready]
    rfl

/-- Settles O29: the three handlers have the same guards. -/
theorem unacceptedNotificationIgnored : Obligations.UnacceptedNotificationIgnored := by
  intro s e h
  have hignored : ∀ run, s.guarded e run = s := fun run =>
    State.guarded_of_not_accepts run (State.accepts_eq_false h)
  exact ⟨congrArg _ (hignored _), congrArg _ (hignored _), congrArg _ (hignored _)⟩

/-- Settles O33: the guards pass, and what runs sets `flt`. -/
theorem errMarksFaultOnly : Obligations.ErrMarksFaultOnly := fun s hinit hcur =>
  congrArg _ (State.guarded_of_accepts _ ((s.accepts_iff s.hid).2 ⟨hinit, rfl, hcur⟩))

end Sys2Proof.Machine
end

