-- ==== Sys2Proof/Proofs/Query.lean ====
section
/-! PROOF. The statement about the STATE query (44_state_query.md R220). -/

namespace Sys2Proof.Machine

theorem execState_of_busy {s : State} (hinit : s.inited = true) (hflt : s.flt = false) (hst : s.st = .busy) :
    execState s = .next (s.answer .busy) := by
  rw [execState, State.whenUsable_run _ hinit hflt, hst]

theorem execState_of_ready {s : State} (hinit : s.inited = true) (hflt : s.flt = false) (hst : s.st = .ready) :
    execState s = .next (s.answer .ready) := by
  rw [execState, State.whenUsable_run _ hinit hflt, hst]

/-- Settles O42: on a usable Strip the refusal tests pass, and the answer follows `st`. -/
theorem stateAnswersStripState : Obligations.StateAnswersStripState := fun _ hinit hflt =>
  ⟨execState_of_busy hinit hflt, execState_of_ready hinit hflt⟩

end Sys2Proof.Machine
end

/-! PROOF. Decoding and encoding are inverse to each other, and the decoder accepts exactly the words of the mask and
match table (30_encoding.md R91, R98, R101, R106). -/

namespace Sys2Proof

/-! ### Decoding from the fields -/

theorem ifReserved_eq_ok_iff (zero : Bool) (i j : Instr) : ifReserved zero i = .ok j ↔ zero = true ∧ i = j := by
  cases zero <;> simp [ifReserved]

theorem decodeCommand_of_init {w : CommandWord} {sel hid : Byte} {gam : Bool} {n : Count}
    (hop : bits w 56 8 = 0x01#8) (hsel : bits w 48 8 = sel) (hhid : bits w 40 8 = hid) (hupper : bits w 33 7 = 0#7)
    (hgam : w.getLsbD 32 = gam) (hn : bits w 16 16 = n) (hlower : bits w 0 16 = 0#16) :
    decodeCommand w = .ok (.init sel hid gam n) := by
  rw [decodeCommand, if_pos hop, decodeInit, hsel, hhid, hgam, hn, hupper, hlower]
  rfl

theorem decodeCommand_of_setpix {w : CommandWord} {idx : Count} {r g b : Byte}
    (hop : bits w 56 8 = 0x02#8) (hupper : bits w 48 8 = 0#8) (hidx : bits w 32 16 = idx) (hlower : bits w 24 8 = 0#8)
    (hr : bits w 16 8 = r) (hg : bits w 8 8 = g) (hb : bits w 0 8 = b) :
    decodeCommand w = .ok (.setpix idx r g b) := by
  rw [decodeCommand, hop, decodeSetpix, hupper, hlower, hidx, hr, hg, hb]
  rfl

theorem decodeCommand_of_fill {w : CommandWord} {r g b : Byte}
    (hop : bits w 56 8 = 0x03#8) (hreserved : bits w 24 32 = 0#32)
    (hr : bits w 16 8 = r) (hg : bits w 8 8 = g) (hb : bits w 0 8 = b) :
    decodeCommand w = .ok (.fill r g b) := by
  rw [decodeCommand, hop, decodeFill, hreserved, hr, hg, hb]
  rfl

theorem decodeCommand_of_setbr {w : CommandWord} {v : Byte}
    (hop : bits w 56 8 = 0x04#8) (hreserved : bits w 8 48 = 0#48) (hv : bits w 0 8 = v) :
    decodeCommand w = .ok (.setbr v) := by
  rw [decodeCommand, hop, decodeSetbr, hreserved, hv]
  rfl

/-! ### Decoding an encoded word -/

/-- An event word's fields are its kind and its handle identity (30_encoding.md R98). -/
theorem bits_eventWord (kind hid : Byte) :
    bits (eventWord kind hid) 8 8 = kind ∧ bits (eventWord kind hid) 0 8 = hid := by
  have hkind := kind.isLt
  have hhid := hid.isLt
  simp only [bits_eq_iff, eventWord, place, BitVec.toNat_ofNat]
  omega

@[simp] theorem decodeEvent_ht (hid : Byte) : decodeEvent (eventWord 0x01 hid) = .ok (.ht hid) := by
  obtain ⟨hk, hh⟩ := bits_eventWord 0x01 hid
  rw [decodeEvent, hk, hh]
  rfl

@[simp] theorem decodeEvent_tc (hid : Byte) : decodeEvent (eventWord 0x02 hid) = .ok (.tc hid) := by
  obtain ⟨hk, hh⟩ := bits_eventWord 0x02 hid
  rw [decodeEvent, hk, hh]
  rfl

@[simp] theorem decodeEvent_err (hid : Byte) : decodeEvent (eventWord 0x03 hid) = .ok (.err hid) := by
  obtain ⟨hk, hh⟩ := bits_eventWord 0x03 hid
  rw [decodeEvent, hk, hh]
  rfl

/-- Settles O1, format by format: each field of the encoded word is read back by division and remainder. -/
theorem decodeOfEncode : Obligations.DecodeOfEncode := by
  intro i
  cases i with
  | init sel hid gam n =>
    have hsel := sel.isLt
    have hhid := hid.isLt
    have hgam := gam.toNat_le
    have hn := n.isLt
    apply decodeCommand_of_init <;>
      simp only [bits_eq_iff, getLsbD_eq_iff, place, ofBool_toNat, BitVec.toNat_ofNat] <;> omega
  | setpix idx r g b =>
    have hidx := idx.isLt
    have hr := r.isLt
    have hg := g.isLt
    have hb := b.isLt
    apply decodeCommand_of_setpix <;> simp only [bits_eq_iff, place, BitVec.toNat_ofNat] <;> omega
  | fill r g b =>
    have hr := r.isLt
    have hg := g.isLt
    have hb := b.isLt
    apply decodeCommand_of_fill <;> simp only [bits_eq_iff, place, BitVec.toNat_ofNat] <;> omega
  | setbr v =>
    have hv := v.isLt
    apply decodeCommand_of_setbr <;> simp only [bits_eq_iff, place, BitVec.toNat_ofNat] <;> omega
  | showStrip => rfl
  | queryState => rfl
  | ht hid => exact decodeEvent_ht hid
  | tc hid => exact decodeEvent_tc hid
  | err hid => exact decodeEvent_err hid

/-! ### Encoding a decoded word -/

/-- A command word is the word of its number. -/
theorem command_ofNat_eq {N : Nat} {w : CommandWord} (h : N % 2 ^ 64 = w.toNat) :
    PortWord.command (BitVec.ofNat 64 N) = .command w :=
  congrArg _ (BitVec.eq_of_toNat_eq (by rw [BitVec.toNat_ofNat, h]))

theorem encode_of_decodeInit {w : CommandWord} {i : Instr} (hop : bits w 56 8 = 0x01#8) (h : decodeInit w = .ok i) :
    encode i = .command w := by
  obtain ⟨hreserved, rfl⟩ := (ifReserved_eq_ok_iff _ _ _).1 h
  have hw := w.isLt
  have hgam : w.toNat / 2 ^ 32 % 2 = (w.getLsbD 32).toNat := (getLsbD_eq_iff w 32 _).1 rfl
  refine command_ofNat_eq ?_
  simp only [Bool.and_eq_true, beq_iff_eq, bits_eq_iff, BitVec.ofNat_eq_ofNat, BitVec.toNat_ofNat] at hreserved hop
  simp only [place, bits_toNat, ofBool_toNat, ← hgam, BitVec.toNat_ofNat]
  omega

theorem encode_of_decodeSetpix {w : CommandWord} {i : Instr} (hop : bits w 56 8 = 0x02#8)
    (h : decodeSetpix w = .ok i) : encode i = .command w := by
  obtain ⟨hreserved, rfl⟩ := (ifReserved_eq_ok_iff _ _ _).1 h
  have hw := w.isLt
  refine command_ofNat_eq ?_
  simp only [Bool.and_eq_true, beq_iff_eq, bits_eq_iff, BitVec.ofNat_eq_ofNat, BitVec.toNat_ofNat] at hreserved hop
  simp only [place, bits_toNat, BitVec.toNat_ofNat]
  omega

theorem encode_of_decodeFill {w : CommandWord} {i : Instr} (hop : bits w 56 8 = 0x03#8)
    (h : decodeFill w = .ok i) : encode i = .command w := by
  obtain ⟨hreserved, rfl⟩ := (ifReserved_eq_ok_iff _ _ _).1 h
  have hw := w.isLt
  refine command_ofNat_eq ?_
  simp only [beq_iff_eq, bits_eq_iff, BitVec.ofNat_eq_ofNat, BitVec.toNat_ofNat] at hreserved hop
  simp only [place, bits_toNat, BitVec.toNat_ofNat]
  omega

theorem encode_of_decodeSetbr {w : CommandWord} {i : Instr} (hop : bits w 56 8 = 0x04#8)
    (h : decodeSetbr w = .ok i) : encode i = .command w := by
  obtain ⟨hreserved, rfl⟩ := (ifReserved_eq_ok_iff _ _ _).1 h
  have hw := w.isLt
  refine command_ofNat_eq ?_
  simp only [beq_iff_eq, bits_eq_iff, BitVec.ofNat_eq_ofNat, BitVec.toNat_ofNat] at hreserved hop
  simp only [place, bits_toNat, BitVec.toNat_ofNat]
  omega

/-- A word of the format without operands is its opcode alone (30_encoding.md R97). -/
theorem command_of_decodeBare {w : CommandWord} {i j : Instr} {op : Byte} (hop : bits w 56 8 = op)
    (h : decodeBare j w = .ok i) : i = j ∧ PortWord.command (BitVec.ofNat 64 (place 56 op)) = .command w := by
  obtain ⟨hreserved, rfl⟩ := (ifReserved_eq_ok_iff _ _ _).1 h
  have hw := w.isLt
  refine ⟨rfl, command_ofNat_eq ?_⟩
  simp only [beq_iff_eq, bits_eq_iff, BitVec.ofNat_eq_ofNat, BitVec.toNat_ofNat] at hreserved hop
  simp only [place, ← hop]
  omega

theorem encode_of_decodeCommand {w : CommandWord} {i : Instr} (h : decodeCommand w = .ok i) :
    encode i = .command w := by
  unfold decodeCommand at h
  split_ifs at h with hinit hsetpix hfill hsetbr hshow hstate
  · exact encode_of_decodeInit hinit h
  · exact encode_of_decodeSetpix hsetpix h
  · exact encode_of_decodeFill hfill h
  · exact encode_of_decodeSetbr hsetbr h
  · obtain ⟨rfl, hw⟩ := command_of_decodeBare hshow h
    exact hw
  · obtain ⟨rfl, hw⟩ := command_of_decodeBare hstate h
    exact hw

/-- An event word is the word of its kind and its handle identity. -/
theorem eventWord_bits {e : EventWord} {kind : Byte} (hkind : bits e 8 8 = kind) :
    eventWord kind (bits e 0 8) = e := by
  have he := e.isLt
  refine BitVec.eq_of_toNat_eq ?_
  simp only [eventWord, place, ← hkind, bits_toNat, BitVec.toNat_ofNat]
  omega

theorem encode_of_decodeEvent {e : EventWord} {i : Instr} (h : decodeEvent e = .ok i) : encode i = .event e := by
  unfold decodeEvent at h
  split_ifs at h with hht htc herr
  · cases h; exact congrArg _ (eventWord_bits hht)
  · cases h; exact congrArg _ (eventWord_bits htc)
  · cases h; exact congrArg _ (eventWord_bits herr)

/-- Settles O2, port by port: the fields of a word with its reserved bits 0 put together again give the word. -/
theorem encodeOfDecode : Obligations.EncodeOfDecode := by
  intro p i h
  cases p with
  | command w => exact encode_of_decodeCommand h
  | event e => exact encode_of_decodeEvent h

/-! ### The mask and match table -/

/-- The words that operations encode to are legal. -/
theorem wellFormed_encode (i : Instr) : (encode i).wellFormed = true := by
  cases i with
  | init sel hid gam n => exact Laws.EncodesLegally.init sel hid gam n
  | setpix idx r g b => exact Laws.EncodesLegally.setpix idx r g b
  | fill r g b => exact Laws.EncodesLegally.fill r g b
  | setbr v => exact Laws.EncodesLegally.setbr v
  | showStrip => exact Laws.EncodesLegally.showStrip
  | queryState => exact Laws.EncodesLegally.queryState
  | ht hid => exact Laws.EncodesLegally.ht hid
  | tc hid => exact Laws.EncodesLegally.tc hid
  | err hid => exact Laws.EncodesLegally.err hid

/-- A row whose mask covers a field fixes that field. -/
theorem EncodingRow.bits_eq_of_accepts {w lo len : Nat} {row : EncodingRow w} {x : BitVec w}
    (h : row.accepts x = true) (hmask : bits row.mask lo len = BitVec.allOnes len) :
    bits x lo len = bits row.pattern lo len := by
  have hpattern : x &&& row.mask = row.pattern := eq_of_beq h
  have hand : bits (x &&& row.mask) lo len = bits x lo len &&& bits row.mask lo len := BitVec.extractLsb'_and
  rw [← hpattern, hand, hmask, BitVec.and_allOnes]

/-- A row fixes as 0 the bits that its mask has and its pattern has not. -/
theorem EncodingRow.and_eq_zero_of_accepts {w : Nat} {row : EncodingRow w} {x m : BitVec w}
    (h : row.accepts x = true) (hmask : row.mask &&& m = m) (hzero : row.pattern &&& m = 0) : x &&& m = 0 := by
  have hpattern : x &&& row.mask = row.pattern := eq_of_beq h
  rw [← hmask, ← BitVec.and_assoc, hpattern, hzero]

/-- A command row that accepts a word fixes its opcode and its reserved bits, so the row's format decodes it. -/
theorem decodeCommand_ok_of_wellFormed {w : CommandWord} (h : (PortWord.command w).wellFormed = true) :
    ∃ i, decodeCommand w = .ok i := by
  simp only [PortWord.wellFormed, commandRows, List.any_cons, List.any_nil, Bool.or_eq_true, Bool.false_eq_true,
    or_false] at h
  unfold decodeCommand
  rcases h with h | h | h | h | h | h <;> rw [EncodingRow.bits_eq_of_accepts (lo := 56) (len := 8) h (by decide)]
  · exact (decodeInit_ok_iff w).2 (EncodingRow.and_eq_zero_of_accepts h (by decide) (by decide))
  · exact (decodeSetpix_ok_iff w).2 (EncodingRow.and_eq_zero_of_accepts h (by decide) (by decide))
  · exact (decodeFill_ok_iff w).2 (EncodingRow.and_eq_zero_of_accepts h (by decide) (by decide))
  · exact (decodeSetbr_ok_iff w).2 (EncodingRow.and_eq_zero_of_accepts h (by decide) (by decide))
  · exact (decodeBare_ok_iff _ w).2 (EncodingRow.and_eq_zero_of_accepts h (by decide) (by decide))
  · exact (decodeBare_ok_iff _ w).2 (EncodingRow.and_eq_zero_of_accepts h (by decide) (by decide))

/-- An event row that accepts a word fixes its kind, and every word of a known kind decodes. -/
theorem decodeEvent_ok_of_wellFormed {e : EventWord} (h : (PortWord.event e).wellFormed = true) :
    ∃ i, decodeEvent e = .ok i := by
  simp only [PortWord.wellFormed, eventRows, List.any_cons, List.any_nil, Bool.or_eq_true, Bool.false_eq_true,
    or_false] at h
  unfold decodeEvent
  rcases h with h | h | h <;> rw [EncodingRow.bits_eq_of_accepts (lo := 8) (len := 8) h (by decide)]
  · exact ⟨.ht _, rfl⟩
  · exact ⟨.tc _, rfl⟩
  · exact ⟨.err _, rfl⟩

/-- Settles O3: a decoded word is an operation's word and so legal; a legal word's row fixes the opcode or kind and the
reserved bits that the decoder tests. -/
theorem decoderAcceptsTableWords : Obligations.DecoderAcceptsTableWords := by
  intro p
  constructor
  · rintro ⟨i, h⟩
    rw [← encodeOfDecode p i h]
    exact wellFormed_encode i
  · intro h
    cases p with
    | command w => exact decodeCommand_ok_of_wellFormed h
    | event e => exact decodeEvent_ok_of_wellFormed h

/-- Settles O4, by evaluation of the decoders on the nine words. -/
theorem specWordsDecode : Obligations.SpecWordsDecode := by
  unfold Obligations.SpecWordsDecode
  decide

end Sys2Proof

/-! PROOF. What each operation can change, said once for each, and the statements that follow for every operation
(10_state.md R46; 60_exceptions.md R239; 70_reset_and_hazards.md R271). -/

namespace Sys2Proof.Machine

/-! ### What a completed command did -/

theorem execInit_next {s t : State} {sel hid : Byte} {gam : Bool} {n : Count} (h : execInit sel hid gam n s = .next t) :
    (s.inited = false ∨ s.cur = 0#17) ∧ t = s.initialise sel hid gam n := by
  unfold execInit at h
  split_ifs at h with hshow
  cases h
  refine ⟨?_, rfl⟩
  cases hi : s.inited <;> simp_all

theorem execSetpix_next {s t : State} {idx : Count} {r g b : Byte} (h : execSetpix idx r g b s = .next t) :
    s.inited = true ∧ s.flt = false ∧ s.n ≠ 0#16 ∧ t = (s.storePixel (pixelNumber idx s.n) r g b).answer .ok := by
  obtain ⟨hinit, hflt, hrun⟩ := State.whenUsable_next h
  obtain ⟨hn, hrun⟩ := State.whenPixels_next hrun
  cases hrun
  exact ⟨hinit, hflt, hn, rfl⟩

theorem execFill_next {s t : State} {r g b : Byte} (h : execFill r g b s = .next t) :
    s.inited = true ∧ s.flt = false ∧ t = (s.fillPixels r g b s.n.toNat).answer .ok := by
  obtain ⟨hinit, hflt, hrun⟩ := State.whenUsable_next h
  cases hrun
  exact ⟨hinit, hflt, rfl⟩

theorem execSetbr_next {s t : State} {v : Byte} (h : execSetbr v s = .next t) :
    s.inited = true ∧ s.flt = false ∧ t = { s with br := v, resp := s.resp ++ [.ok] } := by
  obtain ⟨hinit, hflt, hrun⟩ := State.whenUsable_next h
  cases hrun
  exact ⟨hinit, hflt, rfl⟩

theorem execState_next {s t : State} (h : execState s = .next t) :
    s.inited = true ∧ s.flt = false ∧
      (t = s.answer .ready ∨ t = s.answer .busy) := by
  obtain ⟨hinit, hflt, hrun⟩ := State.whenUsable_next h
  cases hrun
  refine ⟨hinit, hflt, ?_⟩
  cases s.st
  · exact .inl rfl
  · exact .inr rfl

theorem execShow_next {s t : State} (h : execShow s = .next t) :
    s.inited = true ∧ s.flt = false ∧ s.n ≠ 0#16 ∧ t = if s.held then s.attemptStart else s.beginShow := by
  obtain ⟨hinit, hflt, hrun⟩ := State.whenUsable_next h
  obtain ⟨hn, hrun⟩ := State.whenPixels_next hrun
  cases hrun
  exact ⟨hinit, hflt, hn, rfl⟩

/-! ### Frames: the fields an operation can change, all others being kept -/

/-- INIT leaves the environment's inputs, the engine and the stream alone. -/
theorem execInit_frame {s t : State} {sel hid : Byte} {gam : Bool} {n : Count}
    (h : execInit sel hid gam n s = .next t) :
    t = { s with
      n := t.n, br := t.br, gam := t.gam, per := t.per, hi := t.hi, lo := t.lo, st := t.st, cur := t.cur, hid := t.hid
      inited := t.inited, flt := t.flt, pb := t.pb, tb := t.tb, hal := t.hal, resp := t.resp, old := t.old
      epoch := t.epoch } := by
  obtain ⟨-, rfl⟩ := execInit_next h
  rcases s.initialise_cases sel hid gam n with heq | ⟨f, per, hi, lo, -, -, -, -, heq⟩ <;> rw [heq] <;> rfl

theorem execSetpix_frame {s t : State} {idx : Count} {r g b : Byte} (h : execSetpix idx r g b s = .next t) :
    t = { s with pb := t.pb, old := t.old, resp := s.resp ++ [.ok] } := by
  obtain ⟨-, -, -, rfl⟩ := execSetpix_next h
  rfl

theorem execFill_frame {s t : State} {r g b : Byte} (h : execFill r g b s = .next t) :
    t = { s with pb := t.pb, old := t.old, resp := s.resp ++ [.ok] } := by
  obtain ⟨-, -, rfl⟩ := execFill_next h
  rw [State.fillPixels_eq]
  rfl

theorem State.attemptStart_frame (s : State) :
    s.attemptStart = { s with
      startIn := s.attemptStart.startIn, act := s.attemptStart.act, rd := s.attemptStart.rd, st := s.attemptStart.st
      cur := s.attemptStart.cur, held := s.attemptStart.held, flt := s.attemptStart.flt, hal := s.attemptStart.hal
      resp := s.attemptStart.resp } := by
  rcases s.attemptStart_cases with ⟨-, h⟩ | ⟨-, h⟩ | ⟨-, h⟩ <;> rw [h] <;> rfl

/-- SHOW touches the Transfer Buffer, the engine and what the start attempt answers. -/
theorem execShow_frame {s t : State} (h : execShow s = .next t) :
    t = { s with
      tb := t.tb, readyIn := t.readyIn, startIn := t.startIn, act := t.act, rd := t.rd, st := t.st, cur := t.cur
      held := t.held, flt := t.flt, hal := t.hal, resp := t.resp } := by
  obtain ⟨-, -, -, rfl⟩ := execShow_next h
  split_ifs
  · rw [State.attemptStart_frame]
  · rcases s.beginShow_cases with ⟨-, h⟩ | ⟨-, -, h⟩ | ⟨-, -, h⟩ <;> rw [h]
    · rfl
    · rfl
    · rw [State.attemptStart_frame, State.stage_eq]
      rfl

theorem State.onHalfComplete_frame (s : State) :
    s.onHalfComplete = { s with tb := s.onHalfComplete.tb, cur := s.onHalfComplete.cur } := by
  rcases s.onHalfComplete_cases with ⟨-, h⟩ | ⟨-, -, h⟩ | ⟨-, h⟩ <;> ext1 <;> simp [h]

theorem State.onComplete_frame (s : State) :
    s.onComplete = { s with
      tb := s.onComplete.tb, cur := s.onComplete.cur, act := s.onComplete.act, st := s.onComplete.st
      old := s.onComplete.old, hal := s.onComplete.hal } := by
  rcases s.onComplete_cases with ⟨-, h⟩ | ⟨-, -, h⟩ | ⟨-, h⟩ <;> rw [h]
  · ext1 <;> simp
  · ext1 <;> simp
  · rfl

theorem execHt_frame {s t : State} {e : Byte} (h : execHt e s = .next t) : t = { s with tb := t.tb, cur := t.cur } := by
  cases h
  rcases s.guarded_cases e s.onHalfComplete with ⟨-, h⟩ | ⟨-, h⟩ <;> rw [h]
  exact s.onHalfComplete_frame

theorem execTc_frame {s t : State} {e : Byte} (h : execTc e s = .next t) :
    t = { s with tb := t.tb, cur := t.cur, act := t.act, st := t.st, old := t.old, hal := t.hal } := by
  cases h
  rcases s.guarded_cases e s.onComplete with ⟨-, h⟩ | ⟨-, h⟩ <;> rw [h]
  exact s.onComplete_frame

theorem execErr_frame {s t : State} {e : Byte} (h : execErr e s = .next t) : t = { s with flt := t.flt } := by
  cases h
  rcases s.guarded_cases e { s with flt := true } with ⟨-, h⟩ | ⟨-, h⟩ <;> rw [h]

/-- Settles O49, by the frame of each operation. -/
theorem onlyInitRebinds : Obligations.OnlyInitRebinds := by
  intro s t i hinit h
  cases i with
  | init sel hid gam n => exact absurd rfl (hinit sel hid gam n)
  | setpix idx r g b => rw [execSetpix_frame h]; simp
  | fill r g b => rw [execFill_frame h]; simp
  | setbr v => obtain ⟨-, -, rfl⟩ := execSetbr_next h; simp
  | showStrip => rw [execShow_frame h]; simp
  | queryState => obtain ⟨-, -, rfl | rfl⟩ := execState_next h <;> simp
  | ht e => rw [execHt_frame h]; simp
  | tc e => rw [execTc_frame h]; simp
  | err e => rw [execErr_frame h]; simp

/-- Settles O50, by the frame of each operation. -/
theorem operationsKeepToTheirState : Obligations.OperationsKeepToTheirState := by
  intro s t i h
  cases i with
  | init sel hid gam n =>
    rw [execInit_frame h]
    exact ⟨rfl, rfl, rfl, rfl, rfl, rfl, rfl, fun _ _ hinit => absurd rfl (hinit sel hid gam n), nofun⟩
  | setpix idx r g b => rw [execSetpix_frame h]; simp [Instr.isEvent]
  | fill r g b => rw [execFill_frame h]; simp [Instr.isEvent]
  | setbr v => obtain ⟨-, -, rfl⟩ := execSetbr_next h; simp [Instr.isEvent]
  | showStrip => rw [execShow_frame h]; simp [Instr.isEvent]
  | queryState => obtain ⟨-, -, rfl | rfl⟩ := execState_next h <;> simp [Instr.isEvent]
  | ht e => rw [execHt_frame h]; simp [Instr.isEvent]
  | tc e => rw [execTc_frame h]; simp [Instr.isEvent]
  | err e => rw [execErr_frame h]; simp [Instr.isEvent]

/-! ### Answers and actions -/

theorem State.attemptStart_resp (s : State) :
    s.attemptStart.resp = s.resp ++ [.ok] ∨ s.attemptStart.resp = s.resp ++ [.hwErr] ∨
      (s.attemptStart.held = true ∧ s.attemptStart.resp = s.resp) := by
  rcases s.attemptStart_cases with ⟨-, h⟩ | ⟨-, h⟩ | ⟨-, h⟩ <;> rw [h]
  · exact .inl rfl
  · exact .inr (.inl rfl)
  · exact .inr (.inr ⟨rfl, rfl⟩)

theorem State.beginShow_resp (s : State) :
    s.beginShow.resp = s.resp ++ [.ok] ∨ s.beginShow.resp = s.resp ++ [.busy] ∨ s.beginShow.resp = s.resp ++ [.hwErr] ∨
      (s.beginShow.held = true ∧ s.beginShow.resp = s.resp) := by
  rcases s.beginShow_cases with ⟨-, h⟩ | ⟨-, -, h⟩ | ⟨-, -, h⟩ <;> rw [h]
  · exact .inr (.inl rfl)
  · exact .inr (.inl rfl)
  · have hresp := (s.drawChReady.stage.emit [.armNotify]).attemptStart_resp
    simp only [State.emit_resp, State.stage_resp, State.drawChReady_resp] at hresp
    exact hresp.imp_right .inr

/-- Settles O10, one operation at a time. -/
theorem commandsAnswerTheirCodes : Obligations.CommandsAnswerTheirCodes := by
  refine ⟨fun s t i h => ?_, rfl, rfl, rfl, rfl, rfl⟩
  cases i with
  | init sel hid gam n => exact (execInit_cur_resp h).imp And.right And.right
  | setpix idx r g b => rw [execSetpix_frame h]
  | fill r g b => rw [execFill_frame h]
  | setbr v => obtain ⟨-, -, rfl⟩ := execSetbr_next h; rfl
  | showStrip =>
    obtain ⟨-, -, -, rfl⟩ := execShow_next h
    cases s.held
    · exact s.beginShow_resp
    · exact s.attemptStart_resp.imp_right .inr
  | queryState => obtain ⟨-, -, rfl | rfl⟩ := execState_next h <;> simp
  | ht e => rw [execHt_frame h]
  | tc e => rw [execTc_frame h]
  | err e => rw [execErr_frame h]

end Sys2Proof.Machine

/-! PROOF. Where an operation stops (93_implementation_defined.md U3 to U5), that no step faults under the invariant, that
the traces only grow (10_state.md R41, R42), and that the stream does not depend on the brightness (R22). -/

namespace Sys2Proof.Machine

/-! ### Where an operation stops -/

/-- Every command but INIT tests `inited` and `flt` before it does anything else. -/
theorem exec_eq_whenUsable {i : Instr} (hcommand : i.isEvent = false) (hinit : ∀ sel hid gam n, i ≠ .init sel hid gam n)
    (s : State) : ∃ run, exec i s = s.whenUsable run := by
  cases i with
  | init sel hid gam n => exact absurd rfl (hinit sel hid gam n)
  | setpix idx r g b => exact ⟨_, rfl⟩
  | fill r g b => exact ⟨_, rfl⟩
  | setbr v => exact ⟨_, rfl⟩
  | showStrip => exact ⟨_, rfl⟩
  | queryState => exact ⟨_, rfl⟩
  | ht e => cases hcommand
  | tc e => cases hcommand
  | err e => cases hcommand

/-- Settles O43: the two tests of every command but INIT. -/
theorem commandsNeedUsableStrip : Obligations.CommandsNeedUsableStrip := by
  intro s i hcommand hinit
  obtain ⟨run, hrun⟩ := exec_eq_whenUsable hcommand hinit s
  rw [hrun]
  exact ⟨fun h => if_pos h, fun h hflt => by simp [State.whenUsable, h, hflt]⟩

/-- Settles O44: both commands pass the usability tests and meet the pixel test. -/
theorem emptyStripFaults : Obligations.EmptyStripFaults := by
  intro s idx r g b hinit hflt hn
  exact ⟨(State.whenUsable_run _ hinit hflt).trans (if_pos hn), (State.whenUsable_run _ hinit hflt).trans (if_pos hn)⟩

/-- Settles O15: INIT's precondition. -/
theorem initRefusedDuringShow : Obligations.InitRefusedDuringShow := fun _ _ _ _ _ hinit hcur =>
  if_pos ⟨hinit, hcur⟩

/-- Settles O22: SETPIX uses its index only modulo the pixel count. -/
theorem setpixIndexWraps : Obligations.SetpixIndexWraps := by
  intro s idx idx' r g b hidx
  have hpixel : pixelNumber idx s.n = pixelNumber idx' s.n := hidx
  simp only [exec, execSetpix, hpixel]

theorem State.whenUsable_fault {s : State} {run : Host.Outcome State Fault Refusal} {f : Fault}
    (h : s.whenUsable run = .fault f) : s.inited = true ∧ run = .fault f := by
  unfold State.whenUsable at h
  split_ifs at h with hinit hflt
  exact ⟨by simpa using hinit, h⟩

theorem State.whenPixels_next_fault {s t : State} {f : Fault} (h : s.whenPixels (.next t) = .fault f) : s.n = 0#16 := by
  unfold State.whenPixels at h
  split_ifs at h with hn
  exact hn

/-- An operation faults on an initialised Strip with no pixels only (assumption log 13). -/
theorem exec_fault {s : State} {i : Instr} {f : Fault} (h : exec i s = .fault f) : s.inited = true ∧ s.n = 0#16 := by
  cases i with
  | init sel hid gam n => simp only [exec, execInit] at h; split_ifs at h
  | setpix idx r g b => exact (State.whenUsable_fault h).imp_right State.whenPixels_next_fault
  | fill r g b => cases (State.whenUsable_fault h).2
  | setbr v => cases (State.whenUsable_fault h).2
  | showStrip => exact (State.whenUsable_fault h).imp_right State.whenPixels_next_fault
  | queryState => cases (State.whenUsable_fault h).2
  | ht e => cases h
  | tc e => cases h
  | err e => cases h

/-- The bookkeeping of a step keeps the registers of the Strip. -/
theorem step_bookkeeping_n_inited {s u : State} (hu : u = s.tick ∨ u = s.popTurn ∨ u = s.popTurn.takeEvent) :
    u.n = s.n ∧ u.inited = s.inited := by
  rcases hu with rfl | rfl | rfl <;> exact ⟨rfl, rfl⟩

/-- Settles O48: only an operation can fault, and the invariant gives an initialised Strip a pixel. -/
theorem noFaultUnderInvariant : Obligations.NoFaultUnderInvariant := by
  intro s f hinv hstep
  rcases step_cases s with ⟨-, i, u, hu, -, h⟩ | ⟨-, i, r, -, h⟩ | ⟨r, u, -, -, h⟩ | h | h | h | ⟨e, h⟩ | h | ⟨sel, g, h⟩ <;>
    rw [h] at hstep
  · obtain ⟨hinit, hn⟩ := exec_fault hstep
    obtain ⟨hun, hui⟩ := step_bookkeeping_n_inited hu
    have hpixels := (hinv.registers (hui.symm.trans hinit)).1
    rw [← hun, hn] at hpixels
    exact absurd hpixels (by decide)
  all_goals cases hstep

/-! ### The traces -/

/-- Whether the traces of `t` extend those of `s`, under the same parameters. -/
def State.TracesExtend (s t : State) : Prop := s.hal <+: t.hal ∧ s.tx <+: t.tx ∧ s.resp <+: t.resp ∧ t.cfg = s.cfg

/-- A start attempt's actions come after those there were. -/
theorem State.attemptStart_hal (s : State) : s.hal <+: s.attemptStart.hal := by
  rcases s.attemptStart_cases with ⟨-, h⟩ | ⟨-, h⟩ | ⟨-, h⟩ <;> rw [h]
  · exact (List.prefix_append _ _).trans (List.prefix_append _ _)
  · exact List.prefix_append _ _
  · exact List.prefix_append _ _

theorem State.beginShow_hal (s : State) : s.hal <+: s.beginShow.hal := by
  rcases s.beginShow_cases with ⟨-, h⟩ | ⟨-, -, h⟩ | ⟨-, -, h⟩ <;> rw [h]
  · exact List.prefix_rfl
  · exact List.prefix_rfl
  · refine List.IsPrefix.trans ?_ (State.attemptStart_hal _)
    simp

theorem State.onComplete_hal (s : State) : s.hal <+: s.onComplete.hal := by
  rcases s.onComplete_cases with ⟨-, h⟩ | ⟨-, -, h⟩ | ⟨-, h⟩ <;> rw [h]
  · simp
  · simp
  · exact List.prefix_append _ _

/-- An operation's actions come after those there were. -/
theorem exec_hal_prefix {s t : State} {i : Instr} (h : exec i s = .next t) : s.hal <+: t.hal := by
  cases i with
  | init sel hid gam n =>
    obtain ⟨-, rfl⟩ := execInit_next h
    rcases s.initialise_cases sel hid gam n with heq | ⟨f, per, hi, lo, -, -, -, -, heq⟩ <;> rw [heq]
    · exact List.prefix_rfl
    · exact List.prefix_append _ _
  | setpix idx r g b => rw [execSetpix_frame h]
  | fill r g b => rw [execFill_frame h]
  | setbr v => obtain ⟨-, -, rfl⟩ := execSetbr_next h; exact List.prefix_rfl
  | showStrip =>
    obtain ⟨-, -, -, rfl⟩ := execShow_next h
    cases s.held
    · exact s.beginShow_hal
    · exact s.attemptStart_hal
  | queryState => obtain ⟨-, -, rfl | rfl⟩ := execState_next h <;> exact List.prefix_rfl
  | ht e => rw [execHt_frame h]
  | tc e =>
    cases h
    rcases s.guarded_cases e s.onComplete with ⟨-, h⟩ | ⟨-, h⟩ <;> rw [h]
    exact s.onComplete_hal
  | err e => rw [execErr_frame h]

/-- An operation's answer comes after those there were. -/
theorem exec_resp_prefix {s t : State} {i : Instr} (h : exec i s = .next t) : s.resp <+: t.resp := by
  have hanswer := commandsAnswerTheirCodes.1 s t i h
  cases i with
  | init sel hid gam n => rcases hanswer with h | h <;> simp [h]
  | setpix idx r g b => simp [hanswer]
  | fill r g b => simp [hanswer]
  | setbr v => simp [hanswer]
  | showStrip => rcases hanswer with h | h | h | ⟨-, h⟩ <;> simp [h]
  | queryState => rcases hanswer with h | h <;> simp [h]
  | ht e => simp [hanswer]
  | tc e => simp [hanswer]
  | err e => simp [hanswer]

theorem exec_tracesExtend {s t : State} {i : Instr} (h : exec i s = .next t) : s.TracesExtend t := by
  obtain ⟨-, htx, hcfg, -⟩ := operationsKeepToTheirState s t i h
  exact ⟨exec_hal_prefix h, by rw [htx], exec_resp_prefix h, hcfg⟩

/-- A DRAIN step appends to the stream or does nothing. -/
theorem State.drain_tracesExtend (s : State) : s.TracesExtend s.drain := by
  unfold State.drain
  split_ifs
  · exact ⟨List.prefix_rfl, List.prefix_append _ _, List.prefix_rfl, rfl⟩
  · exact ⟨List.prefix_rfl, List.prefix_rfl, List.prefix_rfl, rfl⟩

theorem State.refillSlot_tracesExtend (s : State) (r : Refill) : s.TracesExtend (s.refillSlot r) := by
  simp [State.TracesExtend]

/-- The bookkeeping of a step leaves the traces and the parameters alone. -/
theorem State.TracesExtend.of_bookkeeping {s u t : State} (hu : u = s.tick ∨ u = s.popTurn ∨ u = s.popTurn.takeEvent)
    (h : u.TracesExtend t) : s.TracesExtend t := by
  rcases hu with rfl | rfl | rfl <;> exact h

/-- Settles O52: the bookkeeping of a step keeps the traces, and what the step then runs extends them. -/
theorem tracesOnlyGrow : Obligations.TracesOnlyGrow := by
  intro s t hstep
  have hkept : s.TracesExtend s := ⟨List.prefix_rfl, List.prefix_rfl, List.prefix_rfl, rfl⟩
  rcases step_cases s with ⟨-, i, u, hu, -, h⟩ | ⟨-, i, r, -, h⟩ | ⟨r, u, -, hu, h⟩ | h | h | h | ⟨e, h⟩ | h | ⟨sel, g, h⟩ <;>
    rw [h] at hstep
  · exact (exec_tracesExtend hstep).of_bookkeeping hu
  · cases hstep; exact hkept
  · cases hstep; exact (u.refillSlot_tracesExtend r).of_bookkeeping (hu.imp_right .inl)
  · cases hstep; exact hkept
  · cases hstep; exact ⟨List.prefix_rfl, List.prefix_rfl, List.prefix_append _ _, rfl⟩
  · cases hstep; exact hkept
  · cases hstep; exact hkept
  · cases hstep; exact State.drain_tracesExtend s.popTurn
  · cases hstep; exact hkept

end Sys2Proof.Machine

/-! PROOF. TIMCALC (40_timing_calculator.md R121, R122, R125) and INIT (R120). -/

namespace Sys2Proof.Machine

/-! ### TIMCALC -/

/-- TIMCALC succeeds exactly where the quotient is between 9 and `2^CNT_W`. -/
theorem timCalc_eq_some_iff (cntW f P H L : Nat) :
    timCalc cntW f = some (P, H, L) ↔
      9 ≤ f / 800000 ∧ f / 800000 ≤ 2 ^ cntW ∧
      P = f / 800000 - 1 ∧ H = (f / 800000 - 1) * 56 / 100 - 1 ∧ L = (f / 800000 - 1) * 28 / 100 - 1 := by
  rw [timCalc_eq]
  split_ifs with h
  · simp [h, eq_comm]
  · simp only [false_iff]
    tauto

/-- Settles O11: the bounds on the quotient as bounds on the clock. -/
theorem timCalcSucceedsExactly : Obligations.TimCalcSucceedsExactly := by
  intro cntW f
  rw [timCalc_eq]
  split_ifs <;> simp <;> omega

/-- Settles O12: the order and the ratios are arithmetic on a quotient of at least 9. -/
theorem timCalcThresholdsOrdered : Obligations.TimCalcThresholdsOrdered := by
  intro cntW f P H L h
  obtain ⟨hlo, hhi, rfl, rfl, rfl⟩ := (timCalc_eq_some_iff cntW f P H L).1 h
  generalize 2 ^ cntW = bound at *
  omega

/-! ### INIT -/

theorem execInit_of_idle {s : State} (hidle : s.inited = false ∨ s.cur = 0#17) (sel hid : Byte) (gam : Bool)
    (n : Count) : execInit sel hid gam n s = .next (s.initialise sel hid gam n) := by
  refine if_neg ?_
  rintro ⟨hinit, hcur⟩
  rcases hidle with h | h
  · simp [hinit] at h
  · exact hcur h

/-- With acceptable operands INIT gets to its last steps with what TIMCALC computes. -/
theorem State.initialise_of_accepted {s : State} {sel hid : Byte} {gam : Bool} {n : Count} {f per hi lo : Nat}
    (hn : n ≠ 0#16) (hmax : n.toNat ≤ s.cfg.nMax.toNat) (hclk : s.clkFreq sel = some f)
    (htim : timCalc s.cfg.cntW f = some (per, hi, lo)) :
    s.initialise sel hid gam n = s.finishInit hid gam n per hi lo := by
  have haccepted : ¬(n = 0#16 ∨ s.cfg.nMax.toNat < n.toNat) := by simp [hn, hmax]
  simp only [State.initialise, if_neg haccepted, hclk, htim]

/-- Settles O13: the clock's bounds are those within which TIMCALC succeeds. -/
theorem initEstablishesReadyStrip : Obligations.InitEstablishesReadyStrip := by
  intro s sel hid gam n f hidle hn hmax hclk hlo hhi
  have htim := (timCalc_eq_some_iff s.cfg.cntW f _ _ _).2 ⟨by omega, by omega, rfl, rfl, rfl⟩
  exact (execInit_of_idle hidle sel hid gam n).trans (congrArg _ (State.initialise_of_accepted hn hmax hclk htim))

/-- Settles O14: of INIT's two outcomes the finished one meets none of the four causes. -/
theorem initParameterErrorChangesNothingElse : Obligations.InitParameterErrorChangesNothingElse := by
  intro s sel hid gam n hidle hcause
  refine (execInit_of_idle hidle sel hid gam n).trans (congrArg _ ?_)
  rcases s.initialise_cases sel hid gam n with hfail | ⟨f, per, hi, lo, hn, hmax, hclk, htim, -⟩
  · exact hfail
  · obtain ⟨hlo, hhi⟩ := (timCalcSucceedsExactly s.cfg.cntW f).1 (by rw [htim]; rfl)
    rcases hcause with h | h | h | ⟨g, h, hbad⟩
    · exact absurd h hn
    · omega
    · cases hclk.symm.trans h
    · cases hclk.symm.trans h
      omega

end Sys2Proof.Machine

/-! PROOF. The invariant of Safety.lean holds at power-on and every step keeps it (10_state.md sections 1 and 2,
20_memory.md section 2, 40_timing_calculator.md R125). -/

namespace Sys2Proof.Machine

/-! ### What the invariant says of the fields it ties together -/

/-- The fields that the invariant says nothing about may change freely. -/
theorem State.Inv.of_frame {s t : State} (h : s.Inv)
    (ht : t = { s with
      br := t.br, gam := t.gam, hid := t.hid, rd := t.rd, pend := t.pend, hal := t.hal, resp := t.resp, clk := t.clk
      readyIn := t.readyIn, startIn := t.startIn, turns := t.turns, epoch := t.epoch, draws := t.draws }) : t.Inv := by
  rw [ht]
  exact ⟨h.registers, h.cursor, h.engine, h.pixels, h.slots, h.stream, h.bookkeeping, h.refilling⟩

/-- With no show in flight the engine stands still. -/
theorem State.Inv.act_eq_false {s : State} (h : s.Inv) (hidle : s.inited = false ∨ s.cur = 0#17) : s.act = false := by
  rw [← Bool.not_eq_true]
  intro hact
  obtain ⟨hinit, hcur⟩ := h.engine.1 hact
  rcases hidle with hi | hc
  · simp [hinit] at hi
  · exact hcur hc

/-- An engine that stands still fits a Strip with no show in flight. -/
theorem State.engineOk_of_idle {s : State} (hact : s.act = false) (hidle : s.inited = false ∨ s.cur = 0#17) :
    s.EngineOk := by
  refine ⟨fun h => by simp [hact] at h, fun ⟨hinit, hcur⟩ => ?_⟩
  rcases hidle with hi | hc
  · simp [hinit] at hi
  · exact absurd hc hcur

theorem State.refillOk_of_none {s : State} (h : s.refill = none) : s.RefillOk := fun r hr => by
  cases h.symm.trans hr

/-- What the invariant asks of a refill in progress, field by field. -/
structure State.RefillFits (s : State) (r : Refill) : Prop where
  active : s.act = true
  before : s.cur.toNat < s.n.toNat + 2
  nonempty : r.values ≠ []
  length : r.values.length ≤ 24
  ends : r.slot + r.values.length = 24 ∨ r.slot + r.values.length = 48
  values : ∀ v ∈ r.values, v = s.hi ∨ v = s.lo ∨ v = 0

theorem State.refillOk_iff (s : State) : s.RefillOk ↔ ∀ r ∈ s.refill, s.RefillFits r :=
  forall₂_congr fun _ _ => ⟨fun ⟨h1, h2, h3, h4, h5, h6⟩ => ⟨h1, h2, h3, h4, h5, h6⟩,
    fun ⟨h1, h2, h3, h4, h5, h6⟩ => ⟨h1, h2, h3, h4, h5, h6⟩⟩

/-- With the engine standing still no refill is in progress. -/
theorem State.Inv.refill_eq_none {s : State} (h : s.Inv) (hact : s.act = false) : s.refill = none := by
  cases hr : s.refill with
  | none => rfl
  | some r =>
    obtain ⟨hrun, -⟩ := h.refilling r hr
    simp [hact] at hrun

/-- During a show no SHOW is held. -/
theorem State.Inv.held_eq_false {s : State} (h : s.Inv) (hcur : s.cur ≠ 0#17) : s.held = false := by
  rw [← Bool.not_eq_true]
  intro hheld
  obtain ⟨-, -, hzero⟩ := h.bookkeeping.1 hheld
  exact hcur hzero

/-- During a show the Strip is BUSY. -/
theorem State.Inv.st_ne_ready {s : State} (h : s.Inv) (hinit : s.inited = true) (hcur : s.cur ≠ 0#17) :
    s.st ≠ .ready := fun hst => hcur ((h.cursor hinit).1.1 hst)

/-- The encoder's values and the reset pattern's fit the timer. -/
theorem State.Inv.value_lt {s : State} (h : s.Inv) (hinit : s.inited = true) {v : Nat}
    (hv : v = s.hi ∨ v = s.lo ∨ v = 0) : v < 2 ^ s.cfg.cntW := by
  obtain ⟨-, -, -, hper, -, hlo, hhi⟩ := h.registers hinit
  omega

/-! ### Stores to the memories -/

/-- An entry of a memory is what the memory reads at its address, or one before it. -/
theorem Memory.mem_of_read {α : Type} {m : Memory α} {a : Nat} {v : α} (h : Memory.read m a = some v) : (a, v) ∈ m := by
  induction m with
  | nil => cases h
  | cons p m ih =>
    rw [Memory.read_cons] at h
    split_ifs at h with ha
    · cases h; exact ha ▸ List.mem_cons_self
    · exact List.mem_cons_of_mem _ (ih h)

/-- Stores leave every written address written. -/
theorem Memory.isSome_read_writeFrom {α : Type} {m : Memory α} {a b : Nat} {vs : List α}
    (h : (a ≤ b ∧ b < a + vs.length) ∨ (Memory.read m b).isSome = true) :
    (Memory.read (Memory.writeFrom m a vs) b).isSome = true := by
  rw [Memory.read_writeFrom]
  split_ifs with hin
  · have hlt : b - a < vs.length := by omega
    simp [hlt]
  · exact h.resolve_left hin

/-- Storing the encoder's values or zeros inside the Transfer Buffer keeps the invariant (20_memory.md R64). -/
theorem State.Inv.tbWriteFrom {s : State} (h : s.Inv) (hinit : s.inited = true) {base : Nat} {vs : List Nat}
    (hlen : base + vs.length ≤ 48) (hvs : ∀ v ∈ vs, v = s.hi ∨ v = s.lo ∨ v = 0) : (s.tbWriteFrom base vs).Inv := by
  obtain ⟨hwf, hbound, honly, hfull⟩ := h.slots
  refine ⟨h.registers, h.cursor, h.engine, h.pixels, ⟨Memory.writeFrom_wf vs hwf base, fun p hp => ?_,
    fun _ p hp => ?_, fun hrun i hi => ?_⟩, h.stream, h.bookkeeping, h.refilling⟩
  · rcases Memory.mem_writeFrom vs hp with ⟨-, hlt, hmem⟩ | hmem
    · exact ⟨by omega, h.value_lt hinit (hvs _ hmem)⟩
    · exact hbound p hmem
  · rcases Memory.mem_writeFrom vs hp with ⟨-, -, hmem⟩ | hmem
    · exact hvs _ hmem
    · exact honly hinit p hmem
  · exact Memory.isSome_read_writeFrom (.inr (hfull hrun i hi))

/-- Storing a byte of the Strip keeps the invariant (20_memory.md R62). -/
theorem State.Inv.pbWrite {s : State} (h : s.Inv) {a : Nat} (ha : a < bytesPerPixel * s.n.toNat) (v : Byte) :
    (s.pbWrite a v).Inv := by
  obtain ⟨hwf, hbound⟩ := h.pixels
  obtain ⟨hheld, hold⟩ := h.bookkeeping
  refine ⟨h.registers, h.cursor, h.engine, ⟨Memory.write_wf hwf a v, fun hinit p hp => ?_⟩, h.slots, h.stream,
    ⟨hheld, fun hinit hst => ?_⟩, h.refilling⟩
  · rcases Memory.mem_write hp with rfl | hp
    · exact ha
    · exact hbound hinit p hp
  · have hready : s.st = .ready := hst
    rw [State.pbWrite_old, hready]
    exact hold hinit hready

theorem State.Inv.storePixel {s : State} (h : s.Inv) {j : Nat} (hj : j < s.n.toNat) (r g b : Byte) :
    (s.storePixel j r g b).Inv := by
  have hoffset : ∀ k, k < 3 → pixelOffset j k < bytesPerPixel * s.n.toNat := fun k hk => by
    unfold pixelOffset bytesPerPixel; omega
  exact ((h.pbWrite (hoffset 0 (by decide)) _).pbWrite (hoffset 1 (by decide)) _).pbWrite (hoffset 2 (by decide)) _

theorem State.Inv.fillPixels {s : State} (h : s.Inv) (r g b : Byte) {k : Nat} (hk : k ≤ s.n.toNat) :
    (s.fillPixels r g b k).Inv := by
  induction k with
  | zero => exact h
  | succ k ih =>
    have hn : (s.fillPixels r g b k).n = s.n := by rw [State.fillPixels_eq]
    exact (ih (by omega)).storePixel (by rw [hn]; omega) r g b

/-! ### INIT -/

/-- INIT keeps the invariant where no show is in flight and no SHOW is held (40_timing_calculator.md R120). -/
theorem State.Inv.initialise {s : State} (h : s.Inv) (hidle : s.inited = false ∨ s.cur = 0#17) (hheld : s.held = false)
    (sel hid : Byte) (gam : Bool) (n : Count) : (s.initialise sel hid gam n).Inv := by
  have hact := h.act_eq_false hidle
  have hrefill := h.refill_eq_none hact
  rcases s.initialise_cases sel hid gam n with heq | ⟨f, per, hi, lo, hn, hmax, -, htim, heq⟩ <;> rw [heq]
  · obtain ⟨hwf, hbound, -, hfull⟩ := h.slots
    exact ⟨nofun, nofun, State.engineOk_of_idle hact (.inl rfl), ⟨h.pixels.1, nofun⟩, ⟨hwf, hbound, nofun, hfull⟩,
      h.stream, ⟨fun hh => absurd (hh.symm.trans hheld) nofun, nofun⟩, State.refillOk_of_none hrefill⟩
  · obtain ⟨-, hmin, hper, -, -, hlo, hhl, hhi, -⟩ := timCalcThresholdsOrdered _ _ _ _ _ htim
    have hpos : 0 < n.toNat := Nat.pos_of_ne_zero fun h0 => hn (BitVec.eq_of_toNat_eq h0)
    refine ⟨fun _ => ⟨hpos, hmax, hmin, hper, hlo, hhl, hhi⟩, fun _ => ⟨⟨fun _ => rfl, fun _ => rfl⟩, nofun⟩,
      State.engineOk_of_idle hact (.inr rfl), ⟨List.Pairwise.nil, nofun⟩,
      ⟨List.Pairwise.nil, nofun, nofun, fun hrun => ?_⟩, h.stream,
      ⟨fun hh => absurd (hh.symm.trans hheld) nofun, fun _ _ => rfl⟩, State.refillOk_of_none hrefill⟩
    rcases hrun with hrun | hrun
    · cases hrun.symm.trans hact
    · cases hrun.symm.trans hheld

/-! ### SHOW -/

theorem State.mem_pixelValues {s : State} {p v : Nat} (hv : v ∈ s.pixelValues p) : v = s.hi ∨ v = s.lo ∨ v = 0 :=
  (State.mem_encBytes hv).imp_right .inl

theorem State.mem_pixelValuesRacing {s : State} {p v : Nat} (hv : v ∈ s.pixelValuesRacing p) :
    v = s.hi ∨ v = s.lo ∨ v = 0 :=
  (State.mem_encBytes hv).imp_right .inl

theorem State.mem_zeroValues (s : State) {v : Nat} (hv : v ∈ zeroValues) : v = s.hi ∨ v = s.lo ∨ v = 0 :=
  .inr (.inr (List.eq_of_mem_replicate hv))

theorem State.Inv.encPix {s : State} (h : s.Inv) (hinit : s.inited = true) (p : Nat) {base : Nat} (hbase : base ≤ 24) :
    (s.encPix p base).Inv :=
  h.tbWriteFrom hinit (by simp; omega) fun _ => State.mem_pixelValues

theorem State.Inv.zeroHalf {s : State} (h : s.Inv) (hinit : s.inited = true) {base : Nat} (hbase : base ≤ 24) :
    (s.zeroHalf base).Inv :=
  h.tbWriteFrom hinit (by simp; omega) fun _ => s.mem_zeroValues

theorem State.Inv.stage {s : State} (h : s.Inv) (hinit : s.inited = true) : s.stage.Inv := by
  by_cases hn : 2 ≤ s.n.toNat
  · rw [State.stage_of_two_le hn]
    exact (h.encPix hinit 0 (by decide)).encPix (by simpa) 1 (by decide)
  · rw [State.stage_of_lt_two (by omega)]
    exact (h.encPix hinit 0 (by decide)).zeroHalf (by simpa) (by decide)

/-- Staging writes all 48 slots (43_streaming_engine.md R178). -/
theorem State.isSome_read_stage (s : State) {i : Nat} (hi : i < 48) : (Memory.read s.stage.tb i).isSome = true := by
  have hfirst : i < 24 → (Memory.read (s.encPix 0 0).tb i).isSome = true := fun h => by
    rw [State.encPix_tb]
    exact Memory.isSome_read_writeFrom (.inl (by simpa using h))
  have hsecond : (24 ≤ i ∧ i < 24 + 24) ∨ (Memory.read (s.encPix 0 0).tb i).isSome = true := by
    by_cases h : i < 24
    · exact .inr (hfirst h)
    · exact .inl (by omega)
  by_cases hn : 2 ≤ s.n.toNat
  · rw [State.stage_of_two_le hn, State.encPix_tb]
    exact Memory.isSome_read_writeFrom hsecond
  · rw [State.stage_of_lt_two (by omega), State.zeroHalf_tb]
    exact Memory.isSome_read_writeFrom hsecond

/-- A start attempt on a usable, idle Strip with every slot written keeps the invariant, whatever is answered
(43_streaming_engine.md R179 to R181). -/
theorem State.Inv.attemptStart {s : State} (h : s.Inv) (hinit : s.inited = true) (hflt : s.flt = false)
    (hcur : s.cur = 0#17) (hfull : ∀ i, i < 48 → (Memory.read s.tb i).isSome = true) : s.attemptStart.Inv := by
  have hact := h.act_eq_false (.inr hcur)
  have hrefill := h.refill_eq_none hact
  obtain ⟨hwf, hbound, honly, -⟩ := h.slots
  rcases s.attemptStart_cases with ⟨-, heq⟩ | ⟨-, heq⟩ | ⟨-, heq⟩ <;> rw [heq]
  · refine ⟨h.registers, fun _ => ⟨⟨nofun, nofun⟩, fun _ => ⟨le_refl 2, ?_⟩⟩, ⟨fun _ => ⟨hinit, nofun⟩, fun _ => rfl⟩,
      h.pixels, ⟨hwf, hbound, honly, fun _ => hfull⟩, h.stream, ⟨nofun, nofun⟩, State.refillOk_of_none hrefill⟩
    exact Nat.le_add_left 2 _
  · exact ⟨h.registers, h.cursor, h.engine, h.pixels, ⟨hwf, hbound, honly, fun _ => hfull⟩, h.stream,
      ⟨nofun, h.bookkeeping.2⟩, State.refillOk_of_none hrefill⟩
  · exact ⟨h.registers, h.cursor, h.engine, h.pixels, ⟨hwf, hbound, honly, fun _ => hfull⟩, h.stream,
      ⟨fun _ => ⟨hinit, hflt, hcur⟩, h.bookkeeping.2⟩, State.refillOk_of_none hrefill⟩

theorem State.Inv.beginShow {s : State} (h : s.Inv) (hinit : s.inited = true) (hflt : s.flt = false) :
    s.beginShow.Inv := by
  rcases s.beginShow_cases with ⟨-, heq⟩ | ⟨-, -, heq⟩ | ⟨hcur, -, heq⟩ <;> rw [heq]
  · exact h.of_frame rfl
  · exact h.of_frame rfl
  · have hdrawn : s.drawChReady.Inv := h.of_frame rfl
    have hstaged : (s.drawChReady.stage.emit [.armNotify]).Inv := (hdrawn.stage hinit).of_frame rfl
    exact hstaged.attemptStart (by simpa) (by simpa) (by simpa) fun i hi => s.drawChReady.isSome_read_stage hi

/-! ### The handlers -/

/-- A cursor advance before the terminal value keeps the invariant (10_state.md R29, R30). -/
theorem State.Inv.advance {s : State} (h : s.Inv) (hinit : s.inited = true) (hcur : s.cur ≠ 0#17)
    (hbefore : s.cur.toNat < s.n.toNat + 2) (hrefill : s.refill = none) : s.advance.Inv := by
  have hnat := s.advance_cur_toNat hbefore
  have hne : s.advance.cur ≠ 0#17 := fun hzero => by
    rw [hzero] at hnat
    cases hnat
  have hst := h.st_ne_ready hinit hcur
  have hact : s.act = true := h.engine.2 ⟨hinit, hcur⟩
  refine ⟨h.registers, fun _ => ⟨⟨fun hready => absurd hready hst, fun hzero => absurd hzero hne⟩, fun hbusy => ?_⟩,
    ⟨fun _ => ⟨hinit, hne⟩, fun _ => hact⟩, h.pixels, h.slots, h.stream,
    ⟨fun hheld => ?_, fun _ hready => absurd hready hst⟩, State.refillOk_of_none hrefill⟩
  · obtain ⟨hlo, -⟩ := (h.cursor hinit).2 hbusy
    rw [hnat, State.advance_n]
    omega
  · cases hheld.symm.trans (h.held_eq_false hcur)

theorem State.Inv.endRefill {s : State} (h : s.Inv) (hinit : s.inited = true) (hcur : s.cur ≠ 0#17)
    (hbefore : s.cur.toNat < s.n.toNat + 2) (hrefill : s.refill = none) (r : Refill) : (s.endRefill r).Inv := by
  unfold State.endRefill
  split_ifs
  · exact h.advance hinit hcur hbefore hrefill
  · exact h

/-- The end of a show keeps the invariant (43_streaming_engine.md R185). -/
theorem State.Inv.shutdown {s : State} (h : s.Inv) (hcur : s.cur ≠ 0#17) (hrefill : s.refill = none) :
    s.shutdown.Inv := by
  have hheld := h.held_eq_false hcur
  obtain ⟨hwf, hbound, honly, -⟩ := h.slots
  refine ⟨h.registers, fun _ => ⟨⟨fun _ => rfl, fun _ => rfl⟩, nofun⟩, State.engineOk_of_idle rfl (.inr rfl), h.pixels,
    ⟨hwf, hbound, honly, fun hrun => ?_⟩, h.stream, ⟨fun hh => ?_, fun _ _ => rfl⟩, State.refillOk_of_none hrefill⟩
  · rcases hrun with hrun | hrun
    · cases hrun
    · cases hrun.symm.trans hheld
  · cases hh.symm.trans hheld

/-- HT's refill of an accepted event fits (43_streaming_engine.md R183). -/
theorem State.Inv.refillFits_of_firstHalf {s : State} (h : s.Inv) (hinit : s.inited = true) (hcur : s.cur ≠ 0#17)
    {r : Refill} (hr : s.firstHalfRefill = some r) : s.RefillFits r := by
  have hact : s.act = true := h.engine.2 ⟨hinit, hcur⟩
  rcases s.firstHalfRefill_cases with ⟨hdata, heq⟩ | ⟨-, hreset, heq⟩ | ⟨-, heq⟩ <;> cases heq.symm.trans hr
  · exact ⟨hact, by omega, nofun, le_refl 24, .inl rfl, fun _ => State.mem_pixelValuesRacing⟩
  · exact ⟨hact, hreset, nofun, le_refl 24, .inl rfl, fun _ => s.mem_zeroValues⟩

/-- TC's refill of an accepted event fits (43_streaming_engine.md R184). -/
theorem State.Inv.refillFits_of_secondHalf {s : State} (h : s.Inv) (hinit : s.inited = true) (hcur : s.cur ≠ 0#17)
    {r : Refill} (hr : s.secondHalfRefill = some r) : s.RefillFits r := by
  have hact : s.act = true := h.engine.2 ⟨hinit, hcur⟩
  rcases s.secondHalfRefill_cases with ⟨hdata, heq⟩ | ⟨-, hreset, heq⟩ | ⟨-, heq⟩ <;> cases heq.symm.trans hr
  · exact ⟨hact, by omega, nofun, le_refl 24, .inr rfl, fun _ => State.mem_pixelValuesRacing⟩
  · exact ⟨hact, hreset, nofun, le_refl 24, .inr rfl, fun _ => s.mem_zeroValues⟩

theorem State.Inv.refillFits_of_refillOf {s : State} (h : s.Inv) {i : Instr} {r : Refill} (hr : s.refillOf i = some r) :
    s.RefillFits r := by
  obtain ⟨hacc, -, hhalf⟩ := State.refillOf_some hr
  obtain ⟨hinit, -, hcur⟩ := (s.accepts_iff s.hid).1 hacc
  rcases hhalf with ⟨-, hr⟩ | ⟨-, hr⟩
  · exact h.refillFits_of_firstHalf hinit hcur hr
  · exact h.refillFits_of_secondHalf hinit hcur hr

/-- A whole refill that fits keeps the invariant. -/
theorem State.Inv.refillWhole {s : State} (h : s.Inv) (hrefill : s.refill = none) {r : Refill} (hr : s.RefillFits r) :
    (s.refillWhole r).Inv := by
  obtain ⟨hinit, hcur⟩ := h.engine.1 hr.active
  have hlen : r.slot + r.values.length ≤ 48 := by rcases hr.ends with h | h <;> omega
  have hwritten : (s.tbWriteFrom r.slot r.values).Inv := h.tbWriteFrom hinit hlen hr.values
  exact hwritten.endRefill hinit hcur hr.before hrefill r

theorem State.Inv.onHalfComplete {s : State} (h : s.Inv) (hinit : s.inited = true) (hcur : s.cur ≠ 0#17)
    (hrefill : s.refill = none) : s.onHalfComplete.Inv := by
  unfold State.onHalfComplete
  split
  · exact h.refillWhole hrefill (h.refillFits_of_firstHalf hinit hcur ‹_›)
  · exact h

theorem State.Inv.onComplete {s : State} (h : s.Inv) (hinit : s.inited = true) (hcur : s.cur ≠ 0#17)
    (hrefill : s.refill = none) : s.onComplete.Inv := by
  unfold State.onComplete
  split
  · exact h.refillWhole hrefill (h.refillFits_of_secondHalf hinit hcur ‹_›)
  · exact h.shutdown hcur hrefill

/-- A handler that passes its guards keeps the invariant if what it runs does. -/
theorem State.Inv.guarded {s run : State} (h : s.Inv) (e : Byte)
    (hrun : s.inited = true → s.cur ≠ 0#17 → run.Inv) : (s.guarded e run).Inv := by
  rcases s.guarded_cases e run with ⟨hacc, heq⟩ | ⟨-, heq⟩ <;> rw [heq]
  · obtain ⟨hinit, -, hcur⟩ := (s.accepts_iff e).1 hacc
    exact hrun hinit hcur
  · exact h

/-- An accepted error notification marks the Strip; no SHOW is held during a show (43_streaming_engine.md R186). -/
theorem State.Inv.markFault {s : State} (h : s.Inv) (hcur : s.cur ≠ 0#17) : { s with flt := true }.Inv :=
  ⟨h.registers, h.cursor, h.engine, h.pixels, h.slots, h.stream,
    ⟨fun hheld => absurd (hheld.symm.trans (h.held_eq_false hcur)) nofun, h.bookkeeping.2⟩, h.refilling⟩

/-! ### Every operation -/

/-- An operation run while no refill is in progress, and while a SHOW is held only SHOW and the handlers, keeps the
invariant. -/
theorem State.Inv.exec {s t : State} {i : Instr} (h : s.Inv) (hrefill : s.refill = none)
    (hheld : s.held = true → i = .showStrip ∨ i.isEvent = true) (hexec : exec i s = .next t) : t.Inv := by
  cases i with
  | init sel hid gam n =>
    obtain ⟨hidle, rfl⟩ := execInit_next hexec
    have hfree : s.held = false := by
      rw [← Bool.not_eq_true]
      exact fun hh => by simpa [Instr.isEvent] using hheld hh
    exact h.initialise hidle hfree sel hid gam n
  | setpix idx r g b =>
    obtain ⟨hinit, -, -, rfl⟩ := execSetpix_next hexec
    exact (h.storePixel (Nat.mod_lt _ (h.registers hinit).1) r g b).of_frame rfl
  | fill r g b =>
    obtain ⟨-, -, rfl⟩ := execFill_next hexec
    exact (h.fillPixels r g b (le_refl _)).of_frame rfl
  | setbr v =>
    obtain ⟨-, -, rfl⟩ := execSetbr_next hexec
    exact h.of_frame rfl
  | showStrip =>
    obtain ⟨hinit, hflt, -, rfl⟩ := execShow_next hexec
    split_ifs with hh
    · obtain ⟨-, -, hcur⟩ := h.bookkeeping.1 hh
      obtain ⟨-, -, -, hfull⟩ := h.slots
      exact h.attemptStart hinit hflt hcur (hfull (.inr hh))
    · exact h.beginShow hinit hflt
  | queryState =>
    obtain ⟨-, -, rfl | rfl⟩ := execState_next hexec
    · exact h.of_frame rfl
    · exact h.of_frame rfl
  | ht e =>
    cases hexec
    exact h.guarded e fun hinit hcur => h.onHalfComplete hinit hcur hrefill
  | tc e =>
    cases hexec
    exact h.guarded e fun hinit hcur => h.onComplete hinit hcur hrefill
  | err e =>
    cases hexec
    exact h.guarded e fun _ hcur => h.markFault hcur

/-! ### Refills made slot by slot -/

/-- Beginning or continuing a refill that fits keeps the invariant. -/
theorem State.Inv.setRefill {s : State} (h : s.Inv) {r : Refill} (hr : s.RefillFits r) :
    { s with refill := some r }.Inv :=
  ⟨h.registers, h.cursor, h.engine, h.pixels, h.slots, h.stream, h.bookkeeping,
    (State.refillOk_iff _).2 fun _ hr' => by cases hr'; exact ⟨hr.1, hr.2, hr.3, hr.4, hr.5, hr.6⟩⟩

/-- Ending a refill keeps the invariant. -/
theorem State.Inv.clearRefill {s : State} (h : s.Inv) : { s with refill := none }.Inv :=
  ⟨h.registers, h.cursor, h.engine, h.pixels, h.slots, h.stream, h.bookkeeping, State.refillOk_of_none rfl⟩

/-- One slot write of a refill in progress keeps the invariant (20_memory.md R68). -/
theorem State.Inv.refillSlot {s : State} (h : s.Inv) {r : Refill} (hr : s.RefillFits r) : (s.refillSlot r).Inv := by
  obtain ⟨slot, values, adv⟩ := r
  obtain ⟨hact, hbefore, hnonempty, hlength, hends, hvalues⟩ := hr
  obtain ⟨hinit, hcur⟩ := h.engine.1 hact
  cases values with
  | nil => exact absurd rfl hnonempty
  | cons v vs =>
    simp only [List.length_cons] at hlength hends
    have hslot : slot + [v].length ≤ 48 := by rw [List.length_singleton]; omega
    have hwritten : (s.tbWriteFrom slot [v]).Inv := h.tbWriteFrom hinit hslot fun w hw => by
      rw [List.mem_singleton.1 hw]
      exact hvalues v List.mem_cons_self
    rw [State.refillSlot_cons]
    split_ifs with hvs
    · exact hwritten.clearRefill.endRefill hinit hcur hbefore rfl _
    · exact hwritten.setRefill ⟨hact, hbefore, hvs, by simp only; omega, by simp only; omega,
        fun w hw => hvalues w (List.mem_cons_of_mem _ hw)⟩

/-! ### The engine -/

/-- What a DRAIN step hands over fits the timer (20_memory.md R64). -/
theorem State.Inv.slotOut_lt {s : State} (h : s.Inv) : s.slotOut < 2 ^ s.cfg.cntW := by
  have hfree : ∀ v, v % 2 ^ s.cfg.cntW < 2 ^ s.cfg.cntW := fun v => Nat.mod_lt _ (Nat.two_pow_pos _)
  obtain ⟨-, hbound, -⟩ := h.slots
  unfold State.slotOut State.tbRead
  split_ifs
  · exact hfree _
  · cases hread : Memory.read s.tb s.rd.val with
    | none => exact hfree _
    | some v => exact (hbound _ (Memory.mem_of_read hread)).2

theorem State.Inv.drain {s : State} (h : s.Inv) : s.drain.Inv := by
  unfold State.drain
  split_ifs
  · refine ⟨h.registers, h.cursor, h.engine, h.pixels, h.slots, fun v hv => ?_, h.bookkeeping, h.refilling⟩
    rcases List.mem_append.1 hv with hv | hv
    · exact h.stream v hv
    · rw [List.mem_singleton.1 hv]
      exact h.slotOut_lt
  · exact h

/-! ### The obligations -/

/-- Settles O46: the reset state is not initialised, and its memories, its stream and its race record are empty. -/
theorem invariantHoldsAtReset : Obligations.InvariantHoldsAtReset :=
  ⟨nofun, nofun, State.engineOk_of_idle rfl (.inl rfl), ⟨List.Pairwise.nil, nofun⟩,
    ⟨List.Pairwise.nil, nofun, nofun, fun h => by rcases h with h | h <;> cases h⟩, nofun, ⟨nofun, nofun⟩,
    State.refillOk_of_none rfl⟩

/-- Settles O47: the bookkeeping of a step keeps the invariant, and so does each of the things a step can then do. -/
theorem stepKeepsInvariant : Obligations.StepKeepsInvariant := by
  intro s t h hstep
  have htick : s.tick.Inv := h.of_frame rfl
  have hpop : s.popTurn.Inv := h.of_frame rfl
  have htake : s.popTurn.takeEvent.Inv := h.of_frame rfl
  rcases step_cases s with ⟨hfree, i, u, hu, hheld, heq⟩ | ⟨-, i, r, hr, heq⟩ | ⟨r, u, hr, hu, heq⟩ | heq | heq | heq |
    ⟨e, heq⟩ | heq | ⟨sel, f, heq⟩ <;> rw [heq] at hstep
  · rcases hu with rfl | rfl | rfl
    · exact htick.exec hfree hheld hstep
    · exact hpop.exec hfree hheld hstep
    · exact htake.exec hfree hheld hstep
  all_goals cases hstep
  · exact htake.setRefill (htake.refillFits_of_refillOf hr)
  · rcases hu with rfl | rfl
    · exact htick.refillSlot ((State.refillOk_iff _).1 htick.refilling r hr)
    · exact hpop.refillSlot ((State.refillOk_iff _).1 hpop.refilling r hr)
  · exact hpop
  · exact hpop.of_frame rfl
  · exact htake
  · exact hpop.of_frame rfl
  · exact hpop.drain
  · exact hpop.of_frame rfl

end Sys2Proof.Machine

/-! PROOF. What SETPIX and FILL store (41_pixel_buffer.md R140 to R145) and the race record they keep
(93_implementation_defined.md U1). -/

namespace Sys2Proof.Machine

/-! ### Brightness -/

theorem divisor_pos (b : Byte) : 1 ≤ divisor b :=
  (Nat.one_le_div_iff (Nat.succ_pos _)).2 (by have := b.isLt; omega)

theorem divisor_le (b : Byte) : divisor b ≤ 256 := Nat.div_le_self _ _

@[simp] theorem scale_toNat (c b : Byte) : (scale c b).toNat = c.toNat / divisor b := by
  rw [scale, BitVec.toNat_ofNat]
  exact Nat.mod_eq_of_lt ((Nat.div_le_self _ _).trans_lt c.isLt)

/-- From brightness 128 on the divisor is 1. -/
theorem divisor_of_bright {b : Byte} (h : 128 ≤ b.toNat) : divisor b = 1 := by
  have hb := b.isLt
  exact Nat.div_eq_of_lt_le (by omega) (by omega)

theorem divisor_of_dark {b : Byte} (h : b.toNat = 0) : divisor b = 256 := by
  rw [divisor, h]

/-- Settles O16: the divisor's range, and its values at the two ends. -/
theorem brightnessDividesChannel : Obligations.BrightnessDividesChannel := by
  intro c b
  refine ⟨rfl, divisor_pos b, divisor_le b, scale_toNat c b, fun hbright => ?_, fun hdark => ?_⟩
  · refine BitVec.eq_of_toNat_eq ?_
    rw [scale_toNat, divisor_of_bright hbright, Nat.div_one]
  · refine BitVec.eq_of_toNat_eq ?_
    rw [scale_toNat, divisor_of_dark hdark, Nat.div_eq_of_lt c.isLt]
    rfl

/-- A larger brightness has no larger divisor, so it scales to no smaller a byte. -/
theorem scale_toNat_mono {b b' : Byte} (h : b.toNat ≤ b'.toNat) (c : Byte) :
    (scale c b).toNat ≤ (scale c b').toNat := by
  have hdivisor : divisor b' ≤ divisor b := Nat.div_le_div_left (by omega) (Nat.succ_pos _)
  rw [scale_toNat, scale_toNat]
  exact Nat.div_le_div_left hdivisor (divisor_pos b')

theorem gammaGreen_toNat_mono {c c' : Byte} (h : c.toNat ≤ c'.toNat) :
    (gammaGreen c).toNat ≤ (gammaGreen c').toNat := by
  rw [gammaGreen_toNat, gammaGreen_toNat]
  exact Nat.div_le_div_right (Nat.mul_le_mul_right _ h)

theorem gammaBlue_toNat_mono {c c' : Byte} (h : c.toNat ≤ c'.toNat) :
    (gammaBlue c).toNat ≤ (gammaBlue c').toNat := by
  rw [gammaBlue_toNat, gammaBlue_toNat]
  exact Nat.div_le_div_right (Nat.mul_le_mul_right _ h)

/-- Settles O18: scaling and the two gamma multiplications are monotonic. -/
theorem brightnessIsMonotonic : Obligations.BrightnessIsMonotonic := by
  intro s s' c hbr hgam
  have hscale := scale_toNat_mono hbr c
  cases hg : s'.gam with
  | false =>
    rw [State.storedGreen_of_not_gam hg, State.storedBlue_of_not_gam hg, State.storedGreen_of_not_gam (hgam.trans hg),
      State.storedBlue_of_not_gam (hgam.trans hg)]
    exact ⟨hscale, hscale, hscale⟩
  | true =>
    rw [State.storedGreen_of_gam hg, State.storedBlue_of_gam hg, State.storedGreen_of_gam (hgam.trans hg),
      State.storedBlue_of_gam (hgam.trans hg)]
    exact ⟨gammaGreen_toNat_mono hscale, hscale, gammaBlue_toNat_mono hscale⟩

/-! ### The stored bytes as numbers -/

theorem State.storedGreen_toNat (s : State) (g : Byte) :
    (s.storedGreen g).toNat =
      if s.gam then g.toNat / divisor s.br * 176 / 256 else g.toNat / divisor s.br := by
  cases hg : s.gam <;> simp [State.storedGreen, hg]

theorem State.storedRed_toNat (s : State) (r : Byte) : (s.storedRed r).toNat = r.toNat / divisor s.br :=
  scale_toNat r s.br

theorem State.storedBlue_toNat (s : State) (b : Byte) :
    (s.storedBlue b).toNat =
      if s.gam then b.toNat / divisor s.br * 240 / 256 else b.toNat / divisor s.br := by
  cases hg : s.gam <;> simp [State.storedBlue, hg]

/-! ### The race record -/

/-- While BUSY a store records the byte's earlier value and nothing of any other byte. -/
theorem State.overwritten_pbWrite {s : State} (hst : s.st = .busy) (a : Nat) (v : Byte) (b : Nat) :
    (s.pbWrite a v).overwritten b = if b = a then s.pbRead a :: s.overwritten b else s.overwritten b := by
  by_cases h : a = b
  · simp [State.overwritten, hst, h]
  · simp [State.overwritten, hst, h, Ne.symm h]

theorem State.storePixel_old_of_ready {s : State} (hst : s.st = .ready) (j : Nat) (r g b : Byte) :
    (s.storePixel j r g b).old = s.old := by
  simp [State.storePixel, hst]

/-- While BUSY the stores of one pixel record the earlier values of its three bytes. -/
theorem State.overwritten_storePixel {s : State} (hst : s.st = .busy) (j : Nat) (r g b : Byte) (a : Nat) :
    (s.storePixel j r g b).overwritten a =
      if 3 * j ≤ a ∧ a ≤ 3 * j + 2 then s.pbRead a :: s.overwritten a else s.overwritten a := by
  simp only [State.storePixel, State.overwritten_pbWrite, State.pbWrite_st, hst, State.pbRead_pbWrite, pixelOffset,
    bytesPerPixel]
  grind

/-! ### FILL's loop -/

theorem State.fillPixels_st (s : State) (r g b : Byte) (k : Nat) : (s.fillPixels r g b k).st = s.st := by
  rw [State.fillPixels_eq]

theorem State.fillPixels_old_of_ready {s : State} (hst : s.st = .ready) (r g b : Byte) (k : Nat) :
    (s.fillPixels r g b k).old = s.old := by
  induction k with
  | zero => rfl
  | succ k ih => exact (State.storePixel_old_of_ready ((s.fillPixels_st r g b k).trans hst) k r g b).trans ih

/-- The Pixel Buffer after FILL's loop over `k` pixels: the same three bytes in each (41_pixel_buffer.md R143). -/
theorem State.pbRead_fillPixels (s : State) (r g b : Byte) (k a : Nat) :
    (s.fillPixels r g b k).pbRead a =
      if a < 3 * k then
        if a % 3 = 0 then s.storedGreen g else if a % 3 = 1 then s.storedRed r else s.storedBlue b
      else s.pbRead a := by
  induction k with
  | zero => simp [State.fillPixels]
  | succ k ih =>
    have hgreen : (s.fillPixels r g b k).storedGreen g = s.storedGreen g := by rw [State.fillPixels_eq]; rfl
    have hred : (s.fillPixels r g b k).storedRed r = s.storedRed r := by rw [State.fillPixels_eq]; rfl
    have hblue : (s.fillPixels r g b k).storedBlue b = s.storedBlue b := by rw [State.fillPixels_eq]; rfl
    rw [State.fillPixels, State.pbRead_storePixel, ih, hgreen, hred, hblue]
    grind

/-- While BUSY FILL's loop over `k` pixels records the earlier value of each of their bytes, once. -/
theorem State.overwritten_fillPixels {s : State} (hst : s.st = .busy) (r g b : Byte) (k a : Nat) :
    (s.fillPixels r g b k).overwritten a =
      if a < 3 * k then s.pbRead a :: s.overwritten a else s.overwritten a := by
  induction k with
  | zero => simp [State.fillPixels]
  | succ k ih =>
    rw [State.fillPixels, State.overwritten_storePixel ((s.fillPixels_st r g b k).trans hst), ih,
      State.pbRead_fillPixels]
    grind

/-! ### The commands -/

theorem execSetpix_of_usable {s : State} (hinit : s.inited = true) (hflt : s.flt = false) (hn : s.n ≠ 0#16)
    (idx : Count) (r g b : Byte) :
    execSetpix idx r g b s = .next ((s.storePixel (pixelNumber idx s.n) r g b).answer .ok) :=
  (State.whenUsable_run _ hinit hflt).trans (State.whenPixels_run _ hn)

/-- An answer changes neither the Pixel Buffer nor the race record. -/
@[simp] theorem State.pbRead_answer (s : State) (c : Status) (a : Nat) : (s.answer c).pbRead a = s.pbRead a := rfl

@[simp] theorem State.overwritten_answer (s : State) (c : Status) (a : Nat) :
    (s.answer c).overwritten a = s.overwritten a := rfl

/-- Settles O19: the three stores of the pixel, read back and recorded. -/
theorem setpixStoresOnePixel : Obligations.SetpixStoresOnePixel := by
  intro s idx r g b d j hinit hflt hn hd hj
  subst hd hj
  have hrun := execSetpix_of_usable hinit hflt hn idx r g b
  refine ⟨_, hrun, execSetpix_frame hrun, ?_⟩
  simp only [State.pbRead_answer, State.overwritten_answer, State.answer_old, State.pbRead_storePixel, pixelNumber]
  refine ⟨?_, ?_, ?_, fun a ha => ?_, fun hst => State.storePixel_old_of_ready hst _ r g b, fun hst => ?_⟩
  · rw [if_pos trivial]
    exact s.storedGreen_toNat g
  · rw [if_neg (by omega), if_pos trivial]
    exact s.storedRed_toNat r
  · rw [if_neg (by omega), if_neg (by omega), if_pos trivial]
    exact s.storedBlue_toNat b
  · rw [if_neg (by omega), if_neg (by omega), if_neg (by omega)]
  · simp only [State.overwritten_storePixel hst]
    exact ⟨fun a ha => if_neg (by omega), fun a hlo hhi => if_pos ⟨hlo, hhi⟩⟩

/-- Settles O20: FILL's loop over all the pixels, read back and recorded. -/
theorem fillStoresEveryPixel : Obligations.FillStoresEveryPixel := by
  intro s r g b d hinit hflt hd
  subst hd
  have hrun : execFill r g b s = .next ((s.fillPixels r g b s.n.toNat).answer .ok) := State.whenUsable_run _ hinit hflt
  refine ⟨_, hrun, execFill_frame hrun, ?_⟩
  simp only [State.pbRead_answer, State.overwritten_answer, State.answer_old, State.pbRead_fillPixels]
  refine ⟨fun j hj => ⟨?_, ?_, ?_⟩, fun a ha => if_neg (by omega), fun hst => State.fillPixels_old_of_ready hst r g b _,
    fun hst => ?_⟩
  · rw [if_pos (by omega), if_pos (by omega)]
    exact s.storedGreen_toNat g
  · rw [if_pos (by omega), if_neg (by omega), if_pos (by omega)]
    exact s.storedRed_toNat r
  · rw [if_pos (by omega), if_neg (by omega), if_neg (by omega)]
    exact s.storedBlue_toNat b
  · simp only [State.overwritten_fillPixels hst]
    exact ⟨fun a ha => if_neg (by omega), fun a ha => if_pos ha⟩

/-! ### A second SETPIX -/

/-- The later of two stores at one address counts. -/
theorem Memory.write_write_same {α : Type} (m : Memory α) (a : Nat) (v w : α) :
    Memory.write (Memory.write m a v) a w = Memory.write m a w := by
  induction m with
  | nil => simp [Memory.write]
  | cons p m ih =>
    obtain ⟨c, x⟩ := p
    rcases Nat.lt_trichotomy a c with h | rfl | h
    · simp [Memory.write, h]
    · simp [Memory.write]
    · simp [Memory.write, Nat.lt_asymm h, Nat.ne_of_gt h, ih]

/-- Stores at two addresses, the lower one first or last, on any list. -/
theorem Memory.write_comm {α : Type} (m : Memory α) {a b : Nat} (hab : a < b) (v w : α) :
    Memory.write (Memory.write m b w) a v = Memory.write (Memory.write m a v) b w := by
  induction m with
  | nil => simp [Memory.write, hab, Nat.lt_asymm hab, Nat.ne_of_gt hab]
  | cons p m ih =>
    obtain ⟨c, x⟩ := p
    grind [Memory.write]

theorem State.storePixel_pb (s : State) (j : Nat) (r g b : Byte) :
    (s.storePixel j r g b).pb = Memory.write (Memory.write (Memory.write s.pb (pixelOffset j 0) (s.storedGreen g))
      (pixelOffset j 1) (s.storedRed r)) (pixelOffset j 2) (s.storedBlue b) := rfl

/-- The stores of one pixel made again with the same values change nothing. -/
theorem State.storePixel_pb_of_stored {s t : State} {j : Nat} {r g b : Byte} (hpb : t.pb = (s.storePixel j r g b).pb)
    (hbr : t.br = s.br) (hgam : t.gam = s.gam) : (t.storePixel j r g b).pb = t.pb := by
  have hgreen : t.storedGreen g = s.storedGreen g := by simp [State.storedGreen, hbr, hgam]
  have hred : t.storedRed r = s.storedRed r := by simp [State.storedRed, hbr]
  have hblue : t.storedBlue b = s.storedBlue b := by simp [State.storedBlue, hbr, hgam]
  have h01 : pixelOffset j 0 < pixelOffset j 1 := Nat.lt_succ_self _
  have h12 : pixelOffset j 1 < pixelOffset j 2 := Nat.lt_succ_self _
  have h02 := h01.trans h12
  rw [State.storePixel_pb, hgreen, hred, hblue, hpb, State.storePixel_pb, Memory.write_comm _ h02,
    Memory.write_comm _ h12, Memory.write_write_same, Memory.write_comm _ h01, Memory.write_write_same,
    Memory.write_write_same]

/-- Settles O23: the second SETPIX stores the same bytes in the same pixel. -/
theorem setpixIsIdempotent : Obligations.SetpixIsIdempotent := by
  intro s t idx r g b h
  obtain ⟨hinit, hflt, hn, rfl⟩ := execSetpix_next h
  exact ⟨_, execSetpix_of_usable (by simpa) (by simpa) (by simpa) idx r g b,
    State.storePixel_pb_of_stored (s := s) (by simp) (by simp) (by simp)⟩

end Sys2Proof.Machine

/-! PROOF. The agents' moves (00_scope.md section 7; 30_encoding.md R90), the start loop and the hardware error of SHOW
(43_streaming_engine.md R179, R181), the branches of HT and TC (R183 to R185), and that none of it reads the brightness
(10_state.md R22). -/

namespace Sys2Proof.Machine

/-! ### The moves -/

/-- While a SHOW is held the host's move goes on with it. -/
theorem step_of_command_held {s : State} {w : CommandWord} (hturn : s.nextTurn = .command w) (hheld : s.held = true)
    (hfree : s.refill = none) : step s = exec .showStrip s.tick := by
  simp [step, hturn, State.runTurn, State.onThread, hfree, hheld]

theorem step_of_retry {s : State} (hturn : s.nextTurn = .retry) (hfree : s.refill = none) :
    step s = if s.held then exec .showStrip s.popTurn else .next s.popTurn := by
  simp [step, hturn, State.runTurn, State.onThread, hfree]

theorem step_of_post {s : State} {e : EventWord} (hturn : s.nextTurn = .post e) :
    step s = .next (s.popTurn.post e) := by
  simp [step, hturn, State.runTurn]

theorem step_of_clock {s : State} {sel : Byte} {f : Option Nat} (hturn : s.nextTurn = .clock sel f) :
    step s = .next (s.popTurn.setClock sel f) := by
  simp [step, hturn, State.runTurn]

theorem step_of_drain {s : State} (hturn : s.nextTurn = .drain) : step s = .next s.popTurn.drain := by
  simp [step, hturn, State.runTurn]

/-- The handler agent's moves do nothing where no event waits. -/
theorem step_of_no_event {s : State} (hturn : s.nextTurn = .handle ∨ s.nextTurn = .beginHandler)
    (hfree : s.refill = none) (hpend : s.pend = []) : step s = .next s.popTurn := by
  rcases hturn with hturn | hturn <;>
    simp [step, hturn, State.runTurn, State.onThread, hfree, State.takeOldest, hpend]

/-- While a refill is in progress every move of the thread is its next slot write, and only a command word stays in the
queue of moves (assumption log 10). -/
theorem step_of_refill {s : State} {r : Refill} (hr : s.refill = some r)
    (hturn : (∃ w, s.nextTurn = .command w) ∨ s.nextTurn = .retry ∨ s.nextTurn = .handle ∨ s.nextTurn = .beginHandler) :
    ((∃ w, s.nextTurn = .command w) ∧ step s = .next (s.tick.refillSlot r)) ∨
    ((∀ w, s.nextTurn ≠ .command w) ∧ step s = .next (s.popTurn.refillSlot r)) := by
  rcases hturn with ⟨w, h⟩ | h | h | h <;> simp [step, h, State.runTurn, State.onThread, hr]

theorem State.runCommand_of_ok {s : State} {w : CommandWord} {i : Instr} (h : decodeCommand w = .ok i) :
    s.runCommand w = exec i s := by
  simp [State.runCommand, h]

theorem State.runEvent_of_ok {s : State} {e : EventWord} {i : Instr} (h : decodeEvent e = .ok i) :
    s.runEvent e = exec i s := by
  simp [State.runEvent, h]

theorem State.beginEvent_of_refill {s : State} {e : EventWord} {i : Instr} {r : Refill} (h : decodeEvent e = .ok i)
    (hr : s.refillOf i = some r) : s.beginEvent e = .next { s with refill := some r } := by
  simp [State.beginEvent, h, hr]

theorem State.beginEvent_of_no_refill {s : State} {e : EventWord} {i : Instr} (h : decodeEvent e = .ok i)
    (hr : s.refillOf i = none) : s.beginEvent e = exec i s := by
  simp [State.beginEvent, h, hr]

/-- Settles O5, move by move. -/
theorem stepRunsDecodedInstruction : Obligations.StepRunsDecodedInstruction := by
  intro s hfree
  refine ⟨fun w i hturn hheld hdec => ?_, fun e es i hturn hpend hdec => ?_, fun e es i u hturn hpend hdec hu => ?_,
    fun w hturn hheld => step_of_command_held hturn hheld hfree, fun hturn hheld => ?_⟩
  · rw [step_of_command hturn hheld hfree, State.runCommand_of_ok hdec]
    rfl
  · rw [step_of_handle hturn hfree hpend, State.runEvent_of_ok hdec, State.popTurn_takeEvent_eq hpend]
  · rw [step_of_beginHandler hturn hfree hpend, State.popTurn_takeEvent_eq hpend, ← hu]
    cases hr : u.refillOf i with
    | none => exact State.beginEvent_of_no_refill hdec hr
    | some r => exact State.beginEvent_of_refill hdec hr
  · rw [step_of_retry hturn hfree, if_pos hheld]
    rfl

theorem eq_ok_of_toOption {ε α : Type} {x : Except ε α} {a : α} (h : x.toOption = some a) : x = .ok a := by
  cases x <;> cases h
  rfl

/-- Settles O6: the placed word is the next move's. -/
theorem placedWordRunsNext : Obligations.PlacedWordRunsNext := by
  intro s w i
  constructor
  · intro h
    have hdec : decodeCommand (BitVec.ofNat 64 w) = .ok i := eq_ok_of_toOption h
    exact (step_of_command rfl rfl rfl).trans (State.runCommand_of_ok hdec)
  · intro h
    have hdec : decodeEvent (BitVec.ofNat 16 w) = .ok i := eq_ok_of_toOption h
    exact (step_of_handle rfl rfl rfl).trans (State.runEvent_of_ok hdec)

/-- A clock change reaches its own selector only (70_reset_and_hazards.md R284). -/
theorem State.clkFreq_setClock (s : State) (sel sel' : Byte) (f : Option Nat) :
    (s.setClock sel f).clkFreq sel' = if sel' = sel then f else s.clkFreq sel' := by
  by_cases h : sel' = sel
  · simp [State.clkFreq, h]
  · have hother : (s.clk.filter fun p => p.1 != sel).find? (fun p => p.1 == sel') = s.clk.find? fun p => p.1 == sel' := by
      rw [List.find?_filter]
      grind
    simp [State.clkFreq, h, Ne.symm h, hother]

/-- Settles O9, move by move. -/
theorem environmentMovesTouchOnlyInputs : Obligations.EnvironmentMovesTouchOnlyInputs := by
  intro s
  refine ⟨fun e hturn => step_of_post hturn, fun sel f hturn => ⟨_, step_of_clock hturn, rfl, ?_, fun sel' hne => ?_⟩, ?_⟩
  · rw [State.clkFreq_setClock, if_pos rfl]
  · rw [State.clkFreq_setClock, if_neg hne]
    rfl
  · rintro (⟨hturn, hfree, hpend⟩ | ⟨hturn, hact⟩ | ⟨hturn, hfree, hheld⟩)
    · exact step_of_no_event hturn hfree hpend
    · rw [step_of_drain hturn, State.drain, if_neg (by simp [hact])]
      rfl
    · rw [step_of_retry hturn hfree, if_neg (by simp [hheld])]
      rfl

/-! ### SHOW's start loop -/

/-- A start attempt answered S_ERR (43_streaming_engine.md R181). -/
theorem State.attemptStart_of_err {s : State} (hstart : s.startResult = .err) :
    s.attemptStart = { s with
      startIn := s.startIn.tail, held := false, flt := true
      hal := s.hal ++ [.start], resp := s.resp ++ [.hwErr] } := by
  simp [State.attemptStart, hstart, State.failShow, State.drawStartResult, State.emit, State.answer]

/-- A start attempt answered S_BUSY (43_streaming_engine.md R179). -/
theorem State.attemptStart_of_busy {s : State} (hstart : s.startResult = .busy) :
    s.attemptStart = { s with startIn := s.startIn.tail, hal := s.hal ++ [.start], held := true } := by
  simp [State.attemptStart, hstart, State.drawStartResult, State.emit]

/-- A fresh SHOW whose start attempt is answered S_ERR. -/
theorem State.beginShow_of_start_err {s : State} (hheld : s.held = false) (hcur : s.cur = 0#17)
    (hready : s.chReady = true) (hstart : s.startResult = .err) :
    s.beginShow = { s with
      tb := s.beginShow.tb, readyIn := s.readyIn.tail, startIn := s.startIn.tail
      flt := true, hal := s.hal ++ [.armNotify, .start], resp := s.resp ++ [.hwErr] } := by
  have hstart' := (s.startResult_staged [.armNotify]).trans hstart
  rw [State.beginShow_of_ready hcur hready, State.attemptStart_of_err hstart']
  ext1 <;> simp [hheld]

/-- A fresh SHOW whose start attempt is answered S_BUSY. -/
theorem State.beginShow_of_start_busy {s : State} (hcur : s.cur = 0#17) (hready : s.chReady = true)
    (hstart : s.startResult = .busy) :
    s.beginShow = { s with
      tb := s.beginShow.tb, readyIn := s.readyIn.tail, startIn := s.startIn.tail
      hal := s.hal ++ [.armNotify, .start], held := true } := by
  have hstart' := (s.startResult_staged [.armNotify]).trans hstart
  rw [State.beginShow_of_ready hcur hready, State.attemptStart_of_busy hstart']
  ext1 <;> simp

theorem execShow_of_held {s : State} (hinit : s.inited = true) (hflt : s.flt = false) (hn : s.n ≠ 0#16)
    (hheld : s.held = true) : execShow s = .next s.attemptStart := by
  simp [execShow_of_usable hinit hflt hn, hheld]

/-- No handler acts while the cursor is 0 (43_streaming_engine.md R182). -/
theorem exec_event_of_idle {s : State} (hcur : s.cur = 0#17) {i : Instr} (hevent : i.isEvent = true) :
    exec i s = .next s := by
  obtain ⟨hht, htc, herr⟩ : (∀ e, exec (.ht e) s = .next s) ∧ (∀ e, exec (.tc e) s = .next s) ∧
      ∀ e, exec (.err e) s = .next s := by
    have hignored := fun e => unacceptedNotificationIgnored s e (.inr (.inr hcur))
    exact ⟨fun e => (hignored e).1, fun e => (hignored e).2.1, fun e => (hignored e).2.2⟩
  cases i with
  | ht e => exact hht e
  | tc e => exact htc e
  | err e => exact herr e
  | init sel hid gam n => cases hevent
  | setpix idx r g b => cases hevent
  | fill r g b => cases hevent
  | setbr v => cases hevent
  | showStrip => cases hevent
  | queryState => cases hevent

/-- Settles O27: the marked Strip, which the commands' tests refuse and whose cursor is still 0. -/
theorem showHardwareErrorMarksStrip : Obligations.ShowHardwareErrorMarksStrip := by
  intro s hinit hflt hn hheld hcur hready hstart
  have heq := State.beginShow_of_start_err hheld hcur hready hstart
  have hinit' : s.beginShow.inited = true := by rw [heq]; exact hinit
  have hflt' : s.beginShow.flt = true := by rw [heq]
  have hcur' : s.beginShow.cur = 0#17 := by rw [heq]; exact hcur
  refine ⟨s.beginShow, execShow_of_not_held hinit hflt hn hheld, heq, fun i hcommand hne => ?_,
    fun i hevent => exec_event_of_idle hcur' hevent⟩
  exact (commandsNeedUsableStrip s.beginShow i hcommand hne).2 hinit' hflt'

/-- Settles O28: the first attempt's busy answer, and each answer to a further attempt. -/
theorem showRetriesUntilAnswered : Obligations.ShowRetriesUntilAnswered := by
  intro s hinit hflt hn
  refine ⟨fun hheld hcur hready hstart => ⟨s.beginShow, execShow_of_not_held hinit hflt hn hheld,
      State.beginShow_of_start_busy hcur hready hstart⟩, fun hheld hstart => ?_, fun hheld hstart => ?_,
    fun hheld hstart => ?_⟩ <;> refine (execShow_of_held hinit hflt hn hheld).trans (congrArg _ ?_)
  · rw [State.attemptStart_of_busy hstart, ← hheld]
  · exact State.attemptStart_of_ok hstart
  · exact State.attemptStart_of_err hstart

/-! ### HT and TC -/

theorem execHt_of_accepted {s : State} (hinit : s.inited = true) (hcur : s.cur ≠ 0#17) :
    exec (.ht s.hid) s = .next s.onHalfComplete :=
  congrArg _ (State.guarded_of_accepts _ ((s.accepts_iff s.hid).2 ⟨hinit, rfl, hcur⟩))

theorem execTc_of_accepted {s : State} (hinit : s.inited = true) (hcur : s.cur ≠ 0#17) :
    exec (.tc s.hid) s = .next s.onComplete :=
  congrArg _ (State.guarded_of_accepts _ ((s.accepts_iff s.hid).2 ⟨hinit, rfl, hcur⟩))

/-- Element `8k + i` of what a handler encodes of pixel `p` is `hi` or `lo` by bit `7 - i` of what it reads of the
pixel's byte `k` (42_bit_encoder.md R160 to R162). -/
theorem State.pixelValuesRacing_getD (s : State) (p : Nat) {k i : Nat} (hk : k < 3) (hi : i < 8) :
    (s.pixelValuesRacing p).getD (8 * k + i) 0 =
      if (s.pbReadRacing (3 * p + k)).getLsbD (7 - i) then s.hi else s.lo :=
  s.encBytes_getD (fun k => s.pbReadRacing (pixelOffset p k)) k i hk hi

/-- What the stores to the half at `base` change (20_memory.md R64). -/
theorem State.writeHalf_spec {s t : State} {base : Nat} {vs : List Nat} (hlen : vs.length = 24)
    (ht : t = s.tbWriteFrom base vs) :
    t = { s with tb := t.tb } ∧ (∀ j, j < 24 → t.tbRead (base + j) = vs.getD j 0) ∧
    ∀ j, (j < base ∨ base + 24 ≤ j) → t.tbRead j = s.tbRead j := by
  subst ht
  refine ⟨rfl, fun j hj => ?_, fun j hj => ?_⟩
  · rw [State.tbRead_tbWriteFrom, if_pos (by omega), Nat.add_sub_cancel_left]
  · rw [State.tbRead_tbWriteFrom, if_neg (by omega)]

/-- What a refill that advances the cursor changes (43_streaming_engine.md R183, R184). -/
theorem State.advancingRefill_spec {s t : State} {base : Nat} {vs : List Nat} (hbefore : s.cur.toNat < s.n.toNat + 2)
    (hlen : vs.length = 24) (ht : t = (s.tbWriteFrom base vs).advance) :
    t = { s with tb := t.tb, cur := s.cur + 1#17 } ∧ t.cur.toNat = s.cur.toNat + 1 ∧
    (∀ j, j < 24 → t.tbRead (base + j) = vs.getD j 0) ∧
    ∀ j, (j < base ∨ base + 24 ≤ j) → t.tbRead j = s.tbRead j := by
  obtain ⟨-, hwritten, hkept⟩ := State.writeHalf_spec (s := s) (base := base) hlen rfl
  subst ht
  exact ⟨rfl, State.advance_cur_toNat _ hbefore, hwritten, hkept⟩

/-- Settles O30, branch by branch. -/
theorem htRefillsFirstHalf : Obligations.HtRefillsFirstHalf := by
  intro s hinit hcur
  rw [execHt_of_accepted hinit hcur]
  refine ⟨fun hdata => ?_, fun hpast hbefore => ?_, fun hterminal => ?_⟩
  · have heq := (s.onHalfComplete_cases.resolve_right (by omega)).2
    obtain ⟨hframe, hnext, hvalues, hother⟩ := State.advancingRefill_spec (by omega) (s.pixelValuesRacing_length _) heq
    refine ⟨_, fun k => s.pbReadRacing (3 * s.cur.toNat + k), rfl, hframe, hnext, fun k _ => s.pbReadRacing_cases _,
      fun k i hk hi => ?_, fun j hj => hother j (.inr (by omega))⟩
    rw [← State.pixelValuesRacing_getD s _ hk hi, ← hvalues _ (by omega), Nat.zero_add]
  · have heq := ((s.onHalfComplete_cases.resolve_left (by omega)).resolve_right (by omega)).2.2
    obtain ⟨hframe, hvalues, hother⟩ := State.writeHalf_spec zeroValues_length heq
    refine ⟨_, rfl, hframe, fun j hj => ?_, fun j hj => hother j (.inr (by omega))⟩
    rw [← Nat.zero_add j, hvalues j hj, zeroValues_getD]
  · rw [((s.onHalfComplete_cases.resolve_left (by omega)).resolve_left (by omega)).2]

/-- Settles O31, branch by branch. -/
theorem tcRefillsSecondHalf : Obligations.TcRefillsSecondHalf := by
  intro s hinit hcur
  rw [execTc_of_accepted hinit hcur]
  refine ⟨fun hdata => ?_, fun hpast hbefore => ?_, fun hterminal => ?_⟩
  · have heq := (s.onComplete_cases.resolve_right (by omega)).2
    obtain ⟨hframe, hnext, hvalues, hother⟩ := State.advancingRefill_spec (by omega) (s.pixelValuesRacing_length _) heq
    refine ⟨_, fun k => s.pbReadRacing (3 * s.cur.toNat + k), rfl, hframe, hnext, fun k _ => s.pbReadRacing_cases _,
      fun k i hk hi => ?_, hother⟩
    rw [← State.pixelValuesRacing_getD s _ hk hi, ← hvalues _ (by omega), Nat.add_assoc]
  · have heq := ((s.onComplete_cases.resolve_left (by omega)).resolve_right (by omega)).2.2
    obtain ⟨hframe, hnext, hvalues, hother⟩ := State.advancingRefill_spec hbefore zeroValues_length heq
    refine ⟨_, rfl, hframe, hnext, fun j hlo hhi => ?_, hother⟩
    rw [← Nat.add_sub_cancel' hlo, hvalues _ (by omega), zeroValues_getD]
  · rw [((s.onComplete_cases.resolve_left (by omega)).resolve_left (by omega)).2]

/-- Settles O32: the last branch of TC, for the two kinds of timer. -/
theorem terminalTcShutsDown : Obligations.TerminalTcShutsDown := by
  intro s hinit hcur hterminal
  rw [(tcRefillsSecondHalf s hinit hcur).2.2 (by omega)]
  cases hbreak : s.cfg.breakCapable <;> simp [State.shutdown, State.emit, hbreak]

end Sys2Proof.Machine

/-! PROOF. The stream does not depend on the brightness (10_state.md R22, 41_pixel_buffer.md R144). -/

namespace Sys2Proof.Machine

/-! ### The operations that do not read the brightness -/

/-- An outcome with the brightness of its state replaced. -/
def outcomeWithBr (v : Byte) : Host.Outcome State Fault Refusal → Host.Outcome State Fault Refusal
  | .next t => .next { t with br := v }
  | .fault f => .fault f
  | .refused r => .refused r

variable (s : State) (v : Byte)

@[simp] theorem State.pixelValues_setBr (p : Nat) : { s with br := v }.pixelValues p = s.pixelValues p := rfl

theorem State.stage_setBr : { s with br := v }.stage = { s.stage with br := v } := by
  by_cases hn : 2 ≤ s.n.toNat
  · rw [State.stage_of_two_le (s := { s with br := v }) hn, State.stage_of_two_le hn]
    ext1 <;> simp [State.encPix]
  · rw [State.stage_of_lt_two (s := { s with br := v }) (Nat.not_le.1 hn), State.stage_of_lt_two (Nat.not_le.1 hn)]
    ext1 <;> simp

theorem State.attemptStart_setBr : { s with br := v }.attemptStart = { s.attemptStart with br := v } := by
  have hstart : { s with br := v }.startResult = s.startResult := rfl
  unfold State.attemptStart
  rw [hstart]
  cases s.startResult <;> rfl

theorem State.beginShow_setBr : { s with br := v }.beginShow = { s.beginShow with br := v } := by
  have hready : { s with br := v }.chReady = s.chReady := rfl
  have hstaged : ({ s with br := v }.drawChReady.stage.emit [.armNotify]).attemptStart =
      { (s.drawChReady.stage.emit [.armNotify]).attemptStart with br := v } := by
    rw [← State.attemptStart_setBr]
    exact congrArg (fun u => (State.emit u [.armNotify]).attemptStart) (s.drawChReady.stage_setBr v)
  unfold State.beginShow
  rw [hready, hstaged]
  split_ifs <;> rfl

theorem State.refillWhole_setBr (r : Refill) :
    { s with br := v }.refillWhole r = { s.refillWhole r with br := v } := by
  ext1 <;> simp

theorem State.onHalfComplete_setBr : { s with br := v }.onHalfComplete = { s.onHalfComplete with br := v } := by
  have hrefill : { s with br := v }.firstHalfRefill = s.firstHalfRefill := rfl
  unfold State.onHalfComplete
  rw [hrefill]
  cases s.firstHalfRefill with
  | none => rfl
  | some r => exact s.refillWhole_setBr v r

theorem State.onComplete_setBr : { s with br := v }.onComplete = { s.onComplete with br := v } := by
  have hrefill : { s with br := v }.secondHalfRefill = s.secondHalfRefill := rfl
  unfold State.onComplete
  rw [hrefill]
  cases s.secondHalfRefill with
  | none => rfl
  | some r => exact s.refillWhole_setBr v r

theorem State.guarded_setBr (e : Byte) (run : State) :
    { s with br := v }.guarded e { run with br := v } = { s.guarded e run with br := v } := by
  have hacc : { s with br := v }.accepts e = s.accepts e := rfl
  unfold State.guarded
  rw [hacc]
  split_ifs <;> rfl

theorem State.whenUsable_setBr (run : Host.Outcome State Fault Refusal) :
    { s with br := v }.whenUsable (outcomeWithBr v run) = outcomeWithBr v (s.whenUsable run) := by
  unfold State.whenUsable
  split_ifs <;> rfl

theorem State.whenPixels_setBr (run : Host.Outcome State Fault Refusal) :
    { s with br := v }.whenPixels (outcomeWithBr v run) = outcomeWithBr v (s.whenPixels run) := by
  unfold State.whenPixels
  split_ifs <;> rfl

theorem execShow_setBr : execShow { s with br := v } = outcomeWithBr v (execShow s) := by
  rw [execShow, execShow, ← State.whenUsable_setBr, ← State.whenPixels_setBr]
  congr 3
  by_cases hheld : s.held = true
  · rw [if_pos hheld, if_pos hheld, State.attemptStart_setBr]
  · rw [if_neg hheld, if_neg hheld, State.beginShow_setBr]

theorem execHt_setBr (e : Byte) : execHt e { s with br := v } = outcomeWithBr v (execHt e s) := by
  rw [execHt, State.onHalfComplete_setBr, State.guarded_setBr]
  rfl

theorem execTc_setBr (e : Byte) : execTc e { s with br := v } = outcomeWithBr v (execTc e s) := by
  rw [execTc, State.onComplete_setBr, State.guarded_setBr]
  rfl

theorem execErr_setBr (e : Byte) : execErr e { s with br := v } = outcomeWithBr v (execErr e s) :=
  congrArg _ (s.guarded_setBr v e { s with flt := true })

/-- An operation that does not read the brightness does the same whatever it is. -/
theorem exec_setBr {i : Instr} (h : i = .showStrip ∨ i = .queryState ∨ i.isEvent = true) :
    exec i { s with br := v } = outcomeWithBr v (exec i s) := by
  cases i with
  | showStrip => exact execShow_setBr s v
  | queryState => exact s.whenUsable_setBr v (.next (s.answer _))
  | ht e => exact execHt_setBr s v e
  | tc e => exact execTc_setBr s v e
  | err e => exact execErr_setBr s v e
  | init sel hid gam n => simp [Instr.isEvent] at h
  | setpix idx r g b => simp [Instr.isEvent] at h
  | fill r g b => simp [Instr.isEvent] at h
  | setbr w => simp [Instr.isEvent] at h

/-- Settles O51: the operation on the two states, outcome by outcome. -/
theorem brightnessDoesNotReachTheStream : Obligations.BrightnessDoesNotReachTheStream := by
  intro s v i h
  rw [exec_setBr s v h]
  cases exec i s <;> rfl

end Sys2Proof.Machine

/-! PROOF. The transfer engine (43_streaming_engine.md R196, R197), and refills made slot by slot (20_memory.md R68,
93_implementation_defined.md U2). -/

namespace Sys2Proof.Machine

/-! ### DRAIN -/

theorem eventWord_kind_ht (hid : Byte) : eventWord 0x01 hid = BitVec.ofNat 16 (0x0100 + hid.toNat) := by
  simp [eventWord, place]

theorem eventWord_kind_tc (hid : Byte) : eventWord 0x02 hid = BitVec.ofNat 16 (0x0200 + hid.toNat) := by
  simp [eventWord, place]

theorem rd_succ_val (rd : Fin 48) : (rd + 1).val = (rd.val + 1) % 48 := rfl

/-- The notification posted on leaving slot `rd`: HT after slot 23, TC after slot 47 (43_streaming_engine.md R196). -/
theorem boundaryEvents_succ (hid : Byte) (rd : Fin 48) :
    boundaryEvents hid (rd + 1) =
      if rd.val = 23 then [BitVec.ofNat 16 (0x0100 + hid.toNat)]
      else if rd.val = 47 then [BitVec.ofNat 16 (0x0200 + hid.toNat)] else [] := by
  have hlt := rd.isLt
  have hht : (rd.val + 1) % 48 = halfLen ↔ rd.val = 23 := by unfold halfLen; omega
  have htc : (rd.val + 1) % 48 = 0 ↔ rd.val = 47 := by omega
  simp only [boundaryEvents, rd_succ_val, hht, htc, eventWord_kind_ht, eventWord_kind_tc]

/-- A DRAIN step of an active engine (43_streaming_engine.md R196). -/
theorem step_of_active_drain {s : State} (hturn : s.nextTurn = .drain) (hact : s.act = true) :
    step s = .next { s with
      turns := s.turns.tail, draws := s.draws + 1, tx := s.tx ++ [s.popTurn.slotOut], rd := s.rd + 1
      pend := s.pend ++ (if s.rd.val = 23 then [BitVec.ofNat 16 (0x0100 + s.hid.toNat)] else
        if s.rd.val = 47 then [BitVec.ofNat 16 (0x0200 + s.hid.toNat)] else []) } := by
  rw [step_of_drain hturn, State.drain, if_pos (show s.popTurn.act = true from hact), ← boundaryEvents_succ]
  rfl

/-- Without an accepted error notification the slot goes out as it stands. -/
theorem State.slotOut_of_no_fault {s : State} (hflt : s.flt = false) : s.slotOut = s.tbRead s.rd.val :=
  if_neg (by simp [hflt])

/-- After one, some value of CMP_W bits goes out (93_implementation_defined.md U7). -/
theorem State.slotOut_lt_of_fault {s : State} (hflt : s.flt = true) : s.slotOut < 2 ^ s.cfg.cntW := by
  rw [State.slotOut, if_pos hflt]
  exact Nat.mod_lt _ (Nat.two_pow_pos _)

/-- Settles O35: the active DRAIN step with the slot as it stands. -/
theorem drainHandsOverOneSlot : Obligations.DrainHandsOverOneSlot := by
  intro s hturn hact hflt
  have hslot : s.popTurn.slotOut = s.tbRead s.rd.val := State.slotOut_of_no_fault hflt
  refine ⟨_, step_of_active_drain hturn hact, ?_, rd_succ_val s.rd⟩
  rw [hslot]

/-- Settles O36: the active DRAIN step with the free value. -/
theorem drainAfterErrHandsOverSomeValue : Obligations.DrainAfterErrHandsOverSomeValue := by
  intro s hturn hact hflt
  exact ⟨_, s.popTurn.slotOut, step_of_active_drain hturn hact, State.slotOut_lt_of_fault (s := s.popTurn) hflt, rfl,
    rd_succ_val s.rd⟩

/-! ### Draining a half -/

theorem nextTurn_of_turns {s : State} {m : Turn} {ms : List Turn} (h : s.turns = m :: ms) : s.nextTurn = m := by
  rw [State.nextTurn, h]

/-- `k` DRAIN steps within a half hand over `k` slots in order and post nothing. -/
theorem run_drains {s : State} (hact : s.act = true) (hflt : s.flt = false) {k : Nat} (hk : s.rd.val % 24 + k < 24) :
    ∀ {rest : List Turn}, s.turns = List.replicate k Turn.drain ++ rest →
    ∃ t : State, Host.Core.run Sys2Proof.core k s = .next t ∧
      t = { s with
        turns := rest, draws := s.draws + k, rd := t.rd
        tx := s.tx ++ (List.range k).map (fun i => s.tbRead (s.rd.val + i)) } ∧
      t.rd.val = s.rd.val + k := by
  have hrd := s.rd.isLt
  induction k with
  | zero =>
    intro rest hturns
    refine ⟨s, rfl, ?_, rfl⟩
    simp [← show s.turns = rest from hturns]
  | succ k ih =>
    intro rest hturns
    obtain ⟨u, hrun, hu, hurd⟩ := ih (by omega) (rest := .drain :: rest) (by simp [hturns, List.replicate_succ'])
    have huturns : u.turns = .drain :: rest := by rw [hu]
    obtain ⟨t, hstep, ht, htrd⟩ := drainHandsOverOneSlot u (nextTurn_of_turns huturns) (by rw [hu]; exact hact)
      (by rw [hu]; exact hflt)
    refine ⟨t, (run_append hrun 1).trans (run_step hstep 0), ?_, by omega⟩
    have hslot : u.tbRead u.rd.val = s.tbRead (s.rd.val + k) := by rw [hurd, hu]; rfl
    rw [ht, if_neg (by omega), if_neg (by omega), hslot, huturns, hu]
    simp [List.range_succ, Nat.add_assoc]

/-- 24 DRAIN steps from the start of a half: 23 within the half, and the one that leaves it. -/
theorem run_half {s : State} {rest : List Turn} {kind : Byte} (hturns : s.turns = List.replicate 24 Turn.drain ++ rest)
    (hact : s.act = true) (hflt : s.flt = false)
    (hhalf : (s.rd.val = 0 ∧ kind = 0x01#8) ∨ (s.rd.val = 24 ∧ kind = 0x02#8)) :
    ∃ t : State, Host.Core.run Sys2Proof.core 24 s = .next t ∧
      t = { s with
        turns := rest, draws := s.draws + 24
        tx := s.tx ++ (List.range 24).map (fun i => s.tbRead (s.rd.val + i))
        rd := t.rd, pend := s.pend ++ [eventWord kind s.hid] } ∧
      t.rd.val = (s.rd.val + 24) % 48 := by
  obtain ⟨u, hrun, hu, hurd⟩ := run_drains hact hflt (k := 23) (by omega) (rest := .drain :: rest)
    (by rw [hturns, List.replicate_succ']; simp)
  have huturns : u.turns = .drain :: rest := by rw [hu]
  obtain ⟨t, hstep, ht, htrd⟩ := drainHandsOverOneSlot u (nextTurn_of_turns huturns) (by rw [hu]; exact hact)
    (by rw [hu]; exact hflt)
  refine ⟨t, (run_append hrun 1).trans (run_step hstep 0), ?_, by omega⟩
  have hslot : u.tbRead u.rd.val = s.tbRead (s.rd.val + 23) := by rw [hurd, hu]; rfl
  have hevent : (if u.rd.val = 23 then [BitVec.ofNat 16 (0x0100 + u.hid.toNat)] else
      if u.rd.val = 47 then [BitVec.ofNat 16 (0x0200 + u.hid.toNat)] else []) = [eventWord kind s.hid] := by
    have huhid : u.hid = s.hid := by rw [hu]
    rcases hhalf with ⟨h, rfl⟩ | ⟨h, rfl⟩
    · rw [if_pos (by omega), huhid]
      exact congrArg (fun e => [e]) (eventWord_kind_ht s.hid).symm
    · rw [if_neg (by omega), if_pos (by omega), huhid]
      exact congrArg (fun e => [e]) (eventWord_kind_tc s.hid).symm
  rw [ht, hevent, hslot, huturns, hu]
  simp [List.range_succ (n := 23)]

/-- Settles O40. -/
theorem halfDrainPostsOneNotification : Obligations.HalfDrainPostsOneNotification :=
  fun _ _ _ hturns hact hflt hhalf => run_half hturns hact hflt hhalf

/-! ### Refills slot by slot -/

/-- What one slot write of a refill in progress does (20_memory.md R68). -/
theorem State.refillSlot_spec {s t : State} {slot v : Nat} {vs : List Nat} {adv : Bool}
    (ht : t = s.refillSlot ⟨slot, v :: vs, adv⟩) :
    t = { s with tb := t.tb, cur := t.cur, refill := t.refill } ∧
    (∀ j, t.tbRead j = if j = slot then v else s.tbRead j) ∧
    (vs ≠ [] → t.refill = some ⟨slot + 1, vs, adv⟩ ∧ t.cur = s.cur) ∧
    (vs = [] → t.refill = none ∧ t.cur = if adv then s.cur + 1#17 else s.cur) := by
  have htb : ∀ j, (s.tbWriteFrom slot [v]).tbRead j = if j = slot then v else s.tbRead j := fun j => by
    rw [State.tbRead_tbWriteFrom, List.length_singleton]
    by_cases hj : j = slot
    · simp [hj]
    · rw [if_neg (by omega), if_neg hj]
  rw [State.refillSlot_cons] at ht
  subst ht
  by_cases hvs : vs = []
  · rw [if_pos hvs]
    refine ⟨by ext1 <;> simp, fun j => ?_, fun hne => absurd hvs hne, fun _ => ⟨by simp, by simp⟩⟩
    rw [← htb]
    simp [State.tbRead]
  · rw [if_neg hvs]
    exact ⟨rfl, htb, fun _ => ⟨rfl, rfl⟩, fun hnil => absurd hnil hvs⟩

/-- Settles O37: the slot write after either bookkeeping of a step. -/
theorem refillWritesOneSlotPerMove : Obligations.RefillWritesOneSlotPerMove := by
  intro s slot v vs adv hrefill hturn
  rcases step_of_refill hrefill hturn with ⟨⟨w, hw⟩, hstep⟩ | ⟨hw, hstep⟩
  · obtain ⟨hframe, hspec⟩ := State.refillSlot_spec (s := s.tick) rfl
    refine ⟨_, hstep, ?_, fun _ => by simp, fun hne => absurd hw (hne w), hspec⟩
    rw [hframe]
    rfl
  · obtain ⟨hframe, hspec⟩ := State.refillSlot_spec (s := s.popTurn) rfl
    refine ⟨_, hstep, ?_, fun ⟨w, h⟩ => absurd h (hw w), fun _ => by simp, hspec⟩
    rw [hframe]
    rfl

/-- A refill in progress, made by the handler agent's moves up to some slot before its last
(20_memory.md R68). -/
theorem run_refill_prefix {k : Nat} : ∀ {s : State} {slot : Nat} {values : List Nat} {adv : Bool} {rest : List Turn},
    s.refill = some ⟨slot, values, adv⟩ → k < values.length → s.turns = List.replicate k Turn.handle ++ rest →
    Host.Core.run Sys2Proof.core k s = .next { s with
      tb := Memory.writeFrom s.tb slot (values.take k), refill := some ⟨slot + k, values.drop k, adv⟩
      turns := rest, draws := s.draws + k } := by
  induction k with
  | zero =>
    intro s slot values adv rest hrefill hk hturns
    have hrest : s.turns = rest := hturns
    simp [Host.Core.run, Memory.writeFrom, ← hrefill, ← hrest]
  | succ k ih =>
    intro s slot values adv rest hrefill hk hturns
    cases values with
    | nil => cases hk
    | cons v vs =>
      have hk' : k < vs.length := Nat.lt_of_succ_lt_succ hk
      have hvs : vs ≠ [] := List.ne_nil_of_length_pos (by omega)
      have hturn : s.nextTurn = .handle := nextTurn_of_turns hturns
      obtain ⟨-, hstep⟩ := (step_of_refill hrefill (.inr (.inr (.inl hturn)))).resolve_left (by simp [hturn])
      rw [State.refillSlot_cons, if_neg hvs] at hstep
      rw [run_step hstep, ih (rest := rest) rfl hk' (by simp [hturns, List.replicate_succ])]
      simp [Memory.writeFrom, Nat.add_assoc, Nat.add_comm 1]

/-- Stores to consecutive slots, the last one apart. -/
theorem Memory.writeFrom_concat {α : Type} (vs : List α) (v : α) : ∀ (m : Memory α) (a : Nat),
    Memory.writeFrom m a (vs ++ [v]) = Memory.write (Memory.writeFrom m a vs) (a + vs.length) v := by
  induction vs with
  | nil => intro m a; rfl
  | cons w vs ih =>
    intro m a
    simp only [List.cons_append, Memory.writeFrom, ih, List.length_cons]
    congr 1
    omega

/-- The last slot write of a refill, made by the handler agent's move. -/
theorem step_of_last_slot {s : State} {slot v : Nat} {adv : Bool} {rest : List Turn}
    (hrefill : s.refill = some ⟨slot, [v], adv⟩) (hturns : s.turns = .handle :: rest) :
    step s = .next (({ s.popTurn.tbWriteFrom slot [v] with refill := none }).endRefill ⟨slot, [v], adv⟩) := by
  have hturn : s.nextTurn = .handle := nextTurn_of_turns hturns
  obtain ⟨-, hstep⟩ := (step_of_refill hrefill (.inr (.inr (.inl hturn)))).resolve_left (by simp [hturn])
  exact hstep

/-- A refill in progress, made by the handler agent's moves to its end, is the whole refill. -/
theorem run_refill {s : State} {slot v : Nat} {vs : List Nat} {adv : Bool} {rest : List Turn}
    (hrefill : s.refill = some ⟨slot, vs ++ [v], adv⟩)
    (hturns : s.turns = List.replicate (vs.length + 1) Turn.handle ++ rest) :
    Host.Core.run Sys2Proof.core (vs.length + 1) s =
      .next ({ s with refill := none, turns := rest, draws := s.draws + (vs.length + 1) }.refillWhole
        ⟨slot, vs ++ [v], adv⟩) := by
  have hprefix := run_refill_prefix (k := vs.length) (rest := .handle :: rest) hrefill (by simp)
    (by rw [hturns, List.replicate_succ']; simp)
  rw [List.take_left, List.drop_left] at hprefix
  refine (run_append hprefix 1).trans ((run_step (step_of_last_slot rfl rfl) 0).trans (congrArg _ ?_))
  ext1 <;> simp [Memory.writeFrom_concat, Memory.writeFrom, Nat.add_assoc]

/-- The refill of an accepted HT or TC before the terminal cursor value has 24 values for the half at `base`. -/
theorem State.refillOf_of_accepted {s : State} (hinit : s.inited = true) (hcur : s.cur ≠ 0#17)
    (hbefore : s.cur.toNat < s.n.toNat + 2) {i : Instr} {base : Nat}
    (hi : (i = .ht s.hid ∧ base = 0) ∨ (i = .tc s.hid ∧ base = 24)) :
    ∃ values adv, values.length = 24 ∧ s.refillOf i = some ⟨base, values, adv⟩ := by
  have hacc : s.accepts s.hid = true := (s.accepts_iff s.hid).2 ⟨hinit, rfl, hcur⟩
  rcases hi with ⟨rfl, rfl⟩ | ⟨rfl, rfl⟩
  · rw [State.refillOf, if_pos hacc]
    rcases s.firstHalfRefill_cases with ⟨-, h⟩ | ⟨-, -, h⟩ | ⟨hterminal, -⟩
    · exact ⟨_, _, s.pixelValuesRacing_length _, h⟩
    · exact ⟨_, _, zeroValues_length, h⟩
    · omega
  · rw [State.refillOf, if_pos hacc]
    rcases s.secondHalfRefill_cases with ⟨-, h⟩ | ⟨-, -, h⟩ | ⟨hterminal, -⟩
    · exact ⟨_, _, s.pixelValuesRacing_length _, h⟩
    · exact ⟨_, _, zeroValues_length, h⟩
    · omega

/-- The state in which the handler of the oldest event runs, with what is left of both queues. -/
def State.entered (s : State) (rest : List Turn) (es : List EventWord) : State :=
  { s with turns := rest, draws := s.draws + 1, pend := es }

theorem State.popTurn_takeEvent_eq_entered {s : State} {m : Turn} {rest : List Turn} {e : EventWord}
    {es : List EventWord} (hturns : s.turns = m :: rest) (hpend : s.pend = e :: es) :
    s.popTurn.takeEvent = s.entered rest es := by
  rw [State.popTurn_takeEvent_eq hpend, hturns]
  rfl

/-- The handler agent's move on an event whose handler makes a refill makes the whole of it. -/
theorem step_handle_of_refillOf {s : State} {e : EventWord} {es : List EventWord} {rest : List Turn} {i : Instr}
    {r : Refill} (hfree : s.refill = none) (hturns : s.turns = .handle :: rest) (hpend : s.pend = e :: es)
    (hdec : decodeEvent e = .ok i) (hr : (s.entered rest es).refillOf i = some r) :
    step s = .next ((s.entered rest es).refillWhole r) := by
  rw [step_of_handle (nextTurn_of_turns hturns) hfree hpend, State.popTurn_takeEvent_eq_entered hturns hpend,
    State.runEvent_of_ok hdec, State.exec_of_refillOf hr]

/-- The handler agent's other move begins the refill (assumption log 10). -/
theorem step_beginHandler_of_refillOf {s : State} {e : EventWord} {es : List EventWord} {rest : List Turn} {i : Instr}
    {r : Refill} (hfree : s.refill = none) (hturns : s.turns = .beginHandler :: rest) (hpend : s.pend = e :: es)
    (hdec : decodeEvent e = .ok i) (hr : (s.entered rest es).refillOf i = some r) :
    step s = .next { s.entered rest es with refill := some r } := by
  rw [step_of_beginHandler (nextTurn_of_turns hturns) hfree hpend, State.popTurn_takeEvent_eq_entered hturns hpend,
    State.beginEvent_of_refill hdec hr]

/-- The event words of HT and TC decode to the operation that refills the half at `base`. -/
theorem decodeEvent_of_half {hid : Byte} {e : EventWord} {base : Nat}
    (he : (e = eventWord 0x01 hid ∧ base = 0) ∨ (e = eventWord 0x02 hid ∧ base = 24)) :
    ∃ i, decodeEvent e = .ok i ∧ ((i = .ht hid ∧ base = 0) ∨ (i = .tc hid ∧ base = 24)) := by
  rcases he with ⟨rfl, hbase⟩ | ⟨rfl, hbase⟩
  · exact ⟨_, decodeEvent_ht hid, .inl ⟨rfl, hbase⟩⟩
  · exact ⟨_, decodeEvent_tc hid, .inr ⟨rfl, hbase⟩⟩

/-- Settles O38: the 24 slot writes after the refill's beginning are the whole refill. -/
theorem refillInStepsIsTheHandler : Obligations.RefillInStepsIsTheHandler := by
  intro s e es rest t hfree hpend he hinit hcur hbefore hstep
  obtain ⟨base, hbase⟩ : ∃ base, (e = eventWord 0x01 s.hid ∧ base = 0) ∨ (e = eventWord 0x02 s.hid ∧ base = 24) :=
    he.elim (fun h => ⟨0, .inl ⟨h, rfl⟩⟩) fun h => ⟨24, .inr ⟨h, rfl⟩⟩
  obtain ⟨i, hdec, hi⟩ := decodeEvent_of_half hbase
  obtain ⟨values, adv, hlen, hr⟩ := State.refillOf_of_accepted (s := s.entered rest es) hinit hcur hbefore hi
  obtain ⟨vs, v, rfl⟩ : ∃ vs v, values = vs ++ [v] :=
    ⟨_, _, (List.dropLast_concat_getLast (List.ne_nil_of_length_pos (by omega))).symm⟩
  have hvs : vs.length = 23 := by simpa using hlen
  have hwhole := step_handle_of_refillOf (s := { s with turns := .handle :: rest }) hfree rfl hpend hdec hr
  have hbegin := step_beginHandler_of_refillOf (rest := List.replicate 24 .handle ++ rest)
    (s := { s with turns := .beginHandler :: (List.replicate 24 .handle ++ rest) }) hfree rfl hpend hdec hr
  have hrun := run_refill (rest := rest) (s := { s.entered (List.replicate 24 .handle ++ rest) es with
    refill := some ⟨base, vs ++ [v], adv⟩ }) rfl (by rw [hvs]; rfl)
  rw [hvs] at hrun
  cases hwhole.symm.trans hstep
  refine (run_step hbegin 24).trans (hrun.trans (congrArg _ ?_))
  ext1 <;> simp [State.entered, hfree]

/-- After `k` slot writes of a refill the written slots hold what the whole refill gives them, the others what they
held. -/
theorem State.tbRead_tbWriteFrom_take (s : State) {k : Nat} {values : List Nat} (hk : k ≤ values.length) (base j : Nat) :
    (s.tbWriteFrom base (values.take k)).tbRead j =
      if base ≤ j ∧ j < base + k then (s.tbWriteFrom base values).tbRead j else s.tbRead j := by
  rw [State.tbRead_tbWriteFrom, State.tbRead_tbWriteFrom, List.length_take_of_le hk]
  split_ifs with hwritten hrange
  · have hlt : j - base < k := by omega
    simp [List.getD_eq_getElem?_getD, hlt]
  · omega
  · rfl

theorem State.tbRead_refillWhole (s : State) (r : Refill) (j : Nat) :
    (s.refillWhole r).tbRead j = (s.tbWriteFrom r.slot r.values).tbRead j := by
  simp [State.tbRead]

/-- Settles O39: the slots after `k` of the refill's writes, one of which the DRAIN step hands over. -/
theorem drainDuringRefillHandsOverOldOrNew : Obligations.DrainDuringRefillHandsOverOldOrNew := by
  intro s kind base k es rest t hkind hk hfree hpend hinit hcur hbefore hact hflt hstep
  obtain ⟨i, hdec, hi⟩ := decodeEvent_of_half (hid := s.hid) (e := eventWord kind s.hid) (base := base)
    (hkind.imp (fun ⟨hk, hb⟩ => ⟨by rw [hk]; rfl, hb⟩) fun ⟨hk, hb⟩ => ⟨by rw [hk]; rfl, hb⟩)
  obtain ⟨values, adv, hlen, hr⟩ := State.refillOf_of_accepted (s := s.entered rest es) hinit hcur hbefore hi
  have hwhole := step_handle_of_refillOf (s := { s with turns := .handle :: rest }) hfree rfl hpend hdec hr
  have hbegin := step_beginHandler_of_refillOf (rest := List.replicate k .handle ++ .drain :: rest)
    (s := { s with turns := .beginHandler :: (List.replicate k .handle ++ .drain :: rest) }) hfree rfl hpend hdec hr
  have hprefix := run_refill_prefix (k := k) (rest := .drain :: rest)
    (s := { s.entered (List.replicate k .handle ++ .drain :: rest) es with refill := some ⟨base, values, adv⟩ })
    rfl (by omega) rfl
  obtain ⟨u, hdrain, hu, -⟩ := drainHandsOverOneSlot _ (nextTurn_of_turns (s := { s.entered (.drain :: rest) es with
    tb := Memory.writeFrom s.tb base (values.take k), refill := some ⟨base + k, values.drop k, adv⟩
    draws := s.draws + 1 + k }) rfl) hact hflt
  have hslots : ∀ j, (s.tbWriteFrom base (values.take k)).tbRead j =
      if base ≤ j ∧ j < base + k then t.tbRead j else s.tbRead j := fun j => by
    cases hwhole.symm.trans hstep
    rw [State.tbRead_refillWhole]
    exact s.tbRead_tbWriteFrom_take (by omega) base j
  refine ⟨u, (run_step hbegin (k + 1)).trans ((run_append hprefix 1).trans (run_step hdrain 0)), ?_, fun j => ?_, ?_, ?_⟩
  · rw [← hslots, hu]
    rfl
  · rw [← hslots, hu]
    rfl
  · rw [hu]
    rfl
  · rw [hu]
    rfl

end Sys2Proof.Machine

/-! PROOF. What one show transmits under the nominal schedule (43_streaming_engine.md R199, R200): after each half the
stream, the read pointer, the Fill Cursor and both halves of the Transfer Buffer are as the number of halves says. -/

namespace Sys2Proof.Machine

/-! ### What each half holds, and where the cursor stands -/

/-- The values of half number `i` of a show: the pixel's, or the reset pattern past the last pixel. -/
def State.halfValues (s : State) (i : Nat) : List Nat := if i < s.n.toNat then s.pixelValues i else zeroValues

theorem State.halfValues_of_lt {s : State} {i : Nat} (h : i < s.n.toNat) : s.halfValues i = s.pixelValues i := if_pos h

theorem State.halfValues_of_le {s : State} {i : Nat} (h : s.n.toNat ≤ i) : s.halfValues i = zeroValues :=
  if_neg (Nat.not_lt.2 h)

@[simp] theorem State.halfValues_length (s : State) (i : Nat) : (s.halfValues i).length = 24 := by
  unfold State.halfValues
  split_ifs
  · exact s.pixelValues_length i
  · exact zeroValues_length

/-- Without a race a handler encodes the Pixel Buffer as it stands. -/
theorem State.pixelValuesRacing_of_no_race {s : State} (hold : s.old = []) (p : Nat) :
    s.pixelValuesRacing p = s.pixelValues p := by
  have hquiet : ∀ a, s.pbReadRacing a = s.pbRead a := fun a => s.pbReadRacing_quiet a (by simp [State.overwritten, hold])
  simp only [State.pixelValuesRacing, State.pixelValues, hquiet]

/-- The halves of a show of `n` pixels, numbered from 0, hold what the frame says. -/
theorem State.flatMap_halfValues (s : State) (z : Nat) :
    (List.range (s.n.toNat + z)).flatMap s.halfValues =
      (List.range s.n.toNat).flatMap s.pixelValues ++ List.replicate (halfLen * z) 0 := by
  induction z with
  | zero =>
    rw [Nat.mul_zero, List.replicate_zero, List.append_nil, Nat.add_zero]
    exact List.flatMap_congr fun i hi => State.halfValues_of_lt (List.mem_range.1 hi)
  | succ z ih =>
    rw [← Nat.add_assoc, List.range_succ, List.flatMap_append, ih, List.flatMap_singleton,
      State.halfValues_of_le (by omega), Nat.mul_succ, List.replicate_add, List.append_assoc, zeroValues]

/-- The Fill Cursor after `h` handlers of the nominal schedule: each handler advances it up to the pixel count, then
each TC does (43_streaming_engine.md R183, R184). -/
def nominalCursor (n h : Nat) : Nat := if h + 2 ≤ n then h + 2 else n + (h / 2 + 1 - n / 2)

theorem nominalCursor_pos {n : Nat} (hn : 0 < n) (h : Nat) : 0 < nominalCursor n h := by
  unfold nominalCursor
  split_ifs <;> omega

/-- A show of `n` pixels has an even number of halves. -/
theorem add_zeroHalves (n : Nat) : n + zeroHalves n = 2 * (n / 2) + 4 := by
  unfold zeroHalves
  split_ifs <;> omega

/-! ### One handler of the nominal schedule -/

/-- The handler after half number `h`: HT after the first half of the buffer, TC after the second. -/
def nominalHandler (h : Nat) (hid : Byte) : Instr := if h % 2 = 0 then .ht hid else .tc hid

/-- What a handler of the nominal schedule does before the last one: it refills the half just drained with the values
two halves on, and moves the cursor on. -/
structure State.Refilled (s : State) (h : Nat) (t : State) : Prop where
  frame : t = { s with tb := t.tb, cur := t.cur }
  cursor : t.cur.toNat = nominalCursor s.n.toNat (h + 1)
  filled : ∀ j, j < 24 → t.tbRead (24 * (h % 2) + j) = (s.halfValues (h + 2)).getD j 0
  kept : ∀ j, (j < 24 * (h % 2) ∨ 24 * (h % 2) + 24 ≤ j) → t.tbRead j = s.tbRead j

section
variable {s : State} {h : Nat} (hold : s.old = []) (hcursor : s.cur.toNat = nominalCursor s.n.toNat h)
include hold hcursor

/-- A data-phase refill, HT's or TC's. -/
theorem State.refilled_of_data (hdata : s.cur.toNat < s.n.toNat) {t : State}
    (ht : t = (s.tbWriteFrom (24 * (h % 2)) (s.pixelValuesRacing s.cur.toNat)).advance) : s.Refilled h t := by
  have hcur : s.cur.toNat = h + 2 := by unfold nominalCursor at hcursor; split_ifs at hcursor <;> omega
  obtain ⟨hframe, hnext, hvalues, hkept⟩ := State.advancingRefill_spec (by omega) (s.pixelValuesRacing_length _) ht
  refine ⟨by rw [hframe], ?_, fun j hj => ?_, hkept⟩
  · rw [hnext, nominalCursor, if_pos (by omega), hcur]
  · rw [hvalues j hj, State.pixelValuesRacing_of_no_race hold, hcur, State.halfValues_of_lt (by omega)]

/-- HT after half number `h`: the three branches of 43_streaming_engine.md R183. -/
theorem State.refilled_onHalfComplete (heven : h % 2 = 0)
    (hslots : ∀ j, j < 24 → s.tbRead (24 * (h % 2) + j) = (s.halfValues h).getD j 0) :
    s.Refilled h s.onHalfComplete := by
  have hcursor' := hcursor
  unfold nominalCursor at hcursor'
  rcases s.onHalfComplete_cases with ⟨hdata, heq⟩ | ⟨hpast, -, heq⟩ | ⟨hterminal, heq⟩
  · exact State.refilled_of_data hold hcursor hdata (by rw [heq, heven])
  · obtain ⟨-, hvalues, hkept⟩ := State.writeHalf_spec zeroValues_length heq
    have hbase : 24 * (h % 2) = 0 := by omega
    refine ⟨s.onHalfComplete_frame, ?_, fun j hj => ?_, fun j hj => hkept j (by omega)⟩
    · rw [heq, State.zeroHalf_cur, hcursor]
      unfold nominalCursor
      split_ifs at hcursor' ⊢ <;> omega
    · rw [hbase, hvalues j hj, State.halfValues_of_le (by split_ifs at hcursor' <;> omega)]
  · rw [heq]
    refine ⟨rfl, ?_, fun j hj => ?_, fun _ _ => rfl⟩
    · rw [hcursor]
      unfold nominalCursor
      split_ifs at hcursor' ⊢ <;> omega
    · rw [hslots j hj, State.halfValues_of_le (by split_ifs at hcursor' <;> omega),
        State.halfValues_of_le (by split_ifs at hcursor' <;> omega)]

/-- TC after half number `h`, before the last one: the first two branches of 43_streaming_engine.md R184. -/
theorem State.refilled_onComplete (hodd : h % 2 = 1) (hbefore : h + 1 < s.n.toNat + zeroHalves s.n.toNat) :
    s.Refilled h s.onComplete := by
  have hcursor' := hcursor
  unfold nominalCursor at hcursor'
  rw [add_zeroHalves] at hbefore
  rcases s.onComplete_cases with ⟨hdata, heq⟩ | ⟨hpast, hreset, heq⟩ | ⟨hterminal, -⟩
  · exact State.refilled_of_data hold hcursor hdata (by rw [heq, hodd])
  · obtain ⟨hframe, hnext, hvalues, hkept⟩ := State.advancingRefill_spec hreset zeroValues_length heq
    have hbase : 24 * (h % 2) = 24 := by omega
    refine ⟨by rw [hframe], ?_, fun j hj => ?_, fun j hj => hkept j (by omega)⟩
    · rw [hnext, hcursor]
      unfold nominalCursor
      split_ifs at hcursor' ⊢ <;> omega
    · rw [hbase, hvalues j hj, State.halfValues_of_le (by split_ifs at hcursor' <;> omega)]
  · split_ifs at hcursor' <;> omega

end

/-! ### One half of the nominal schedule -/

/-- A show in flight with nothing pending, no fault, no race and no refill in progress. -/
structure State.Streaming (s : State) : Prop where
  active : s.act = true
  initialised : s.inited = true
  unfaulted : s.flt = false
  unraced : s.old = []
  free : s.refill = none
  drained : s.pend = []
  pixels : 0 < s.n.toNat

/-- Where the show that started in `s` stands after `k` halves were transmitted and `h` handlers have run. -/
structure State.Progress (s : State) (k h : Nat) (t : State) : Prop where
  frame : t = { s with tb := t.tb, tx := t.tx, rd := t.rd, cur := t.cur, turns := t.turns, draws := t.draws }
  stream : t.tx = s.tx ++ (List.range k).flatMap s.halfValues
  pointer : t.rd.val = 24 * (k % 2)
  cursor : t.cur.toNat = nominalCursor s.n.toNat h
  current : ∀ j, j < 24 → t.tbRead (24 * (h % 2) + j) = (s.halfValues h).getD j 0
  following : ∀ j, j < 24 → t.tbRead (24 * ((h + 1) % 2) + j) = (s.halfValues (h + 1)).getD j 0

/-- A half read slot by slot is the list of its values. -/
theorem State.map_tbRead_eq {s : State} {base : Nat} {vs : List Nat} (hlen : vs.length = 24)
    (h : ∀ j, j < 24 → s.tbRead (base + j) = vs.getD j 0) :
    (List.range 24).map (fun j => s.tbRead (base + j)) = vs := by
  refine List.ext_getElem (by simp [hlen]) fun j hj hj' => ?_
  have hlt : j < 24 := by simpa using hj
  simp [h j hlt, hj']

/-- The event posted at the end of half number `h` is its handler's. -/
theorem decodeEvent_nominalHandler (h : Nat) (hid : Byte) :
    ∃ kind : Byte, ((24 * (h % 2) = 0 ∧ kind = 0x01#8) ∨ (24 * (h % 2) = 24 ∧ kind = 0x02#8)) ∧
      decodeEvent (eventWord kind hid) = .ok (nominalHandler h hid) := by
  unfold nominalHandler
  by_cases hpar : h % 2 = 0
  · exact ⟨0x01#8, .inl ⟨by omega, rfl⟩, by rw [if_pos hpar]; exact decodeEvent_ht hid⟩
  · exact ⟨0x02#8, .inr ⟨by omega, rfl⟩, by rw [if_neg hpar]; exact decodeEvent_tc hid⟩

/-- Draining a half and taking the notification of its end gets to the handler. -/
theorem State.Progress.drain_half {s t : State} {h : Nat} {rest : List Turn} (hs : s.Streaming) (ht : s.Progress h h t)
    (hturns : t.turns = List.replicate 24 Turn.drain ++ Turn.handle :: rest) :
    ∃ u : State, s.Progress (h + 1) h u ∧ u.turns = rest ∧
      ∀ v, exec (nominalHandler h s.hid) u = .next v → Host.Core.run Sys2Proof.core 25 t = .next v := by
  obtain ⟨hframe, hstream, hpointer, hcursor, hcurrent, hfollowing⟩ := ht
  obtain ⟨kind, hkind, hdec⟩ := decodeEvent_nominalHandler h s.hid
  obtain ⟨u, hrun, hu, hurd⟩ := run_half (kind := kind) hturns (by rw [hframe]; exact hs.active)
    (by rw [hframe]; exact hs.unfaulted) (by rw [hpointer]; exact hkind)
  have hvalues := State.map_tbRead_eq (s.halfValues_length h) hcurrent
  have hfree : u.refill = none := by rw [hu, hframe]; exact hs.free
  have huturns : u.turns = .handle :: rest := by rw [hu]
  have hupend : u.pend = [eventWord kind s.hid] := by rw [hu, hframe]; simp [hs.drained]
  have hslots : ∀ j, (u.entered rest []).tbRead j = t.tbRead j := fun j => by rw [hu]; rfl
  refine ⟨u.entered rest [], ⟨?_, ?_, ?_, ?_, ?_, ?_⟩, rfl, fun v hexec => ?_⟩
  · rw [State.entered, hu, hframe, hs.drained]
  · rw [State.entered, hu]
    simp only [hstream, hpointer, hvalues]
    rw [List.range_succ, List.flatMap_append, List.flatMap_singleton, List.append_assoc]
  · show u.rd.val = _
    omega
  · rw [← hcursor, State.entered, hu]
  · simpa only [hslots] using hcurrent
  · simpa only [hslots] using hfollowing
  · refine (run_append hrun 1).trans (run_step ?_ 0)
    rw [step_of_handle (nextTurn_of_turns huturns) hfree hupend, State.popTurn_takeEvent_eq_entered huturns hupend,
      State.runEvent_of_ok hdec]
    exact hexec

/-- The handler after a half that is not the last. -/
theorem State.Progress.handle_half {s u : State} {h : Nat} (hs : s.Streaming) (hu : s.Progress (h + 1) h u)
    (hbefore : h + 1 < s.n.toNat + zeroHalves s.n.toNat) :
    ∃ v, exec (nominalHandler h s.hid) u = .next v ∧ s.Progress (h + 1) (h + 1) v ∧ v.turns = u.turns := by
  obtain ⟨hframe, hstream, hpointer, hcursor, hcurrent, hfollowing⟩ := hu
  have hn : u.n = s.n := by rw [hframe]
  have hhid : s.hid = u.hid := by rw [hframe]
  have hinit : u.inited = true := by rw [hframe]; exact hs.initialised
  have hold : u.old = [] := by rw [hframe]; exact hs.unraced
  have hhalf : ∀ i, u.halfValues i = s.halfValues i := fun i => by rw [hframe]; rfl
  have hcur : u.cur ≠ 0#17 := fun hzero => by
    have hpos := nominalCursor_pos hs.pixels h
    rw [← hcursor, hzero] at hpos
    cases hpos
  rw [← hn] at hcursor hbefore
  obtain ⟨v, hexec, hv⟩ : ∃ v, exec (nominalHandler h s.hid) u = .next v ∧ u.Refilled h v := by
    rw [hhid, nominalHandler]
    by_cases hpar : h % 2 = 0
    · rw [if_pos hpar]
      exact ⟨_, execHt_of_accepted hinit hcur,
        State.refilled_onHalfComplete hold hcursor hpar (by simpa only [hhalf] using hcurrent)⟩
    · rw [if_neg hpar]
      exact ⟨_, execTc_of_accepted hinit hcur, State.refilled_onComplete hold hcursor (by omega) hbefore⟩
  obtain ⟨hvframe, hvcursor, hfilled, hkept⟩ := hv
  have hparity : (h + 1 + 1) % 2 = h % 2 := by omega
  refine ⟨v, hexec, ⟨?_, ?_, ?_, ?_, fun j hj => ?_, fun j hj => ?_⟩, by rw [hvframe]⟩
  · rw [hvframe, hframe]
  · rw [hvframe]; exact hstream
  · rw [hvframe]; exact hpointer
  · rw [hvcursor, hn]
  · rw [hkept _ (by omega)]; exact hfollowing j hj
  · rw [hparity, ← hhalf]; exact hfilled j hj

/-- The handler after the last half ends the show (43_streaming_engine.md R185). -/
theorem State.Progress.handle_last {s u : State} {h : Nat} (hs : s.Streaming) (hu : s.Progress (h + 1) h u)
    (hlast : h + 1 = s.n.toNat + zeroHalves s.n.toNat) :
    exec (nominalHandler h s.hid) u = .next u.shutdown ∧ ∀ j, j < 48 → u.tbRead j = 0 := by
  obtain ⟨hframe, -, -, hcursor, hcurrent, hfollowing⟩ := hu
  rw [add_zeroHalves] at hlast
  have hterminal : u.cur.toNat = s.n.toNat + 2 := by
    rw [hcursor]
    unfold nominalCursor
    split_ifs <;> omega
  have hcur : u.cur ≠ 0#17 := fun hzero => by rw [hzero] at hterminal; cases hterminal
  have hn : u.n = s.n := by rw [hframe]
  have hhid : s.hid = u.hid := by rw [hframe]
  constructor
  · rw [hhid, nominalHandler, if_neg (by omega)]
    exact (tcRefillsSecondHalf u (by rw [hframe]; exact hs.initialised) hcur).2.2 (by rw [hn, hterminal])
  · intro j hj
    rw [State.halfValues_of_le (by omega)] at hcurrent hfollowing
    by_cases hfirst : j < 24
    · have hslot := hfollowing j hfirst
      rwa [show 24 * ((h + 1) % 2) + j = j by omega, zeroValues_getD] at hslot
    · have hslot := hcurrent (j - 24) (by omega)
      rwa [show 24 * (h % 2) + (j - 24) = j by omega, zeroValues_getD] at hslot

/-- The nominal schedule up to any half of the show before its end. -/
theorem State.Progress.run_halves {s : State} (hs : s.Streaming) (hstart : s.Progress 0 0 s) {rest : List Turn} {h : Nat} :
    ∀ {m : Nat}, s.turns = nominalTurns (h + m) ++ rest → h < s.n.toNat + zeroHalves s.n.toNat →
    ∃ t : State, Host.Core.run Sys2Proof.core (25 * h) s = .next t ∧ s.Progress h h t ∧
      t.turns = nominalTurns m ++ rest := by
  induction h with
  | zero =>
    intro m hturns _
    exact ⟨s, rfl, hstart, by rw [hturns, Nat.zero_add]⟩
  | succ h ih =>
    intro m hturns hbefore
    obtain ⟨t, hrun, ht, htturns⟩ := ih (m := m + 1) (by rw [hturns]; congr 2; omega) (by omega)
    obtain ⟨u, hu, huturns, hhandle⟩ := ht.drain_half (rest := nominalTurns m ++ rest) hs
      (by rw [htturns]; simp [nominalTurns, halfLen])
    obtain ⟨v, hexec, hv, hvturns⟩ := hu.handle_half hs hbefore
    exact ⟨v, (run_append hrun 25).trans (hhandle v hexec), hv, hvturns.trans huturns⟩

/-- The whole nominal schedule of a show: the frame is transmitted, and the show is over. -/
theorem State.Progress.run_show {s : State} (hs : s.Streaming) (hstart : s.Progress 0 0 s) {rest : List Turn} {halves : Nat}
    (hhalves : halves = s.n.toNat + zeroHalves s.n.toNat) (hturns : s.turns = nominalTurns halves ++ rest) :
    ∃ u : State, Host.Core.run Sys2Proof.core (25 * halves) s = .next u.shutdown ∧
      u = { s with tb := u.tb, tx := u.tx, rd := u.rd, cur := u.cur, turns := u.turns, draws := u.draws } ∧
      u.turns = rest ∧ u.tx = s.tx ++ s.frame ∧ ∀ j, j < 48 → u.tbRead j = 0 := by
  obtain ⟨h, rfl⟩ : ∃ h, halves = h + 1 := ⟨halves - 1, by have := hs.pixels; omega⟩
  obtain ⟨t, hrun, ht, htturns⟩ := State.Progress.run_halves hs hstart hturns (by omega)
  obtain ⟨u, hu, huturns, hhandle⟩ := ht.drain_half (rest := rest) hs (by rw [htturns]; simp [nominalTurns, halfLen])
  obtain ⟨hexec, hzero⟩ := hu.handle_last hs hhalves
  refine ⟨u, (run_append hrun 25).trans (hhandle _ hexec), hu.frame, huturns, ?_, hzero⟩
  rw [hu.stream, hhalves, State.flatMap_halfValues, State.frame]

/-! ### The start of a show -/

/-- A SHOW that starts at once on an idle Strip with nothing pending begins the progress at half 0: the first two halves
are staged (43_streaming_engine.md R178, R180). -/
theorem State.beginShow_streaming {s : State} (hinit : s.inited = true) (hflt : s.flt = false) (hn : s.n ≠ 0#16)
    (hpend : s.pend = []) (hold : s.old = []) (hfree : s.refill = none) {u : State}
    (hu : u = { s with
      tb := u.tb, readyIn := s.readyIn.tail, startIn := s.startIn.tail
      act := true, rd := 0, st := .busy, cur := 2#17
      hal := s.hal ++ [.armNotify, .start, .outEnable, .counterEnable]
      resp := s.resp ++ [.ok] })
    (hslots : ∀ j, u.tbRead j = s.stage.tbRead j) : u.Streaming ∧ u.Progress 0 0 u := by
  have hpos : 0 < s.n.toNat := Nat.pos_of_ne_zero fun h0 => hn (BitVec.eq_of_toNat_eq h0)
  have hun : u.n = s.n := by rw [hu]
  have hhalf : ∀ i, u.halfValues i = s.halfValues i := fun i => by rw [hu]; rfl
  refine ⟨⟨by rw [hu], by rw [hu]; exact hinit, by rw [hu]; exact hflt, by rw [hu]; exact hold,
    by rw [hu]; exact hfree, by rw [hu]; exact hpend, by rw [hun]; exact hpos⟩,
    ⟨rfl, by simp, by rw [hu]; rfl, ?_, fun j hj => ?_, fun j hj => ?_⟩⟩
  · have hcur : u.cur.toNat = 2 := by rw [hu]; rfl
    rw [hcur, hun, nominalCursor]
    split_ifs <;> omega
  · rw [hslots, hhalf, State.halfValues_of_lt hpos, State.tbRead_stage, if_pos (by omega)]
    simp
  · rw [hslots, hhalf, State.tbRead_stage, if_neg (by omega), if_pos (by omega), State.halfValues]
    by_cases hpixels : 2 ≤ s.n.toNat
    · rw [if_pos hpixels, if_pos (by omega), show 24 * ((0 + 1) % 2) + j - 24 = j by omega]
    · rw [if_neg hpixels, if_neg (by omega), zeroValues_getD]

/-- The command word 0x05 ‖ 0 presents SHOW. -/
theorem step_of_show_word {s : State} {rest : List Turn} (hturns : s.turns = .command 0x0500000000000000 :: rest)
    (hheld : s.held = false) (hfree : s.refill = none) : step s = execShow s.popTurn := by
  rw [step_of_command (nextTurn_of_turns hturns) hheld hfree, State.runCommand_of_ok (i := .showStrip) (by decide)]
  rfl

/-- Settles O41: the SHOW starts the progress, and the nominal schedule takes it to its end. -/
theorem showTransmitsWholeFrame : Obligations.ShowTransmitsWholeFrame := by
  intro s rest halves hinit hflt hn hheld hcur hpend hold hfree hready hstart hhalves hturns
  have hbegin : s.popTurn.beginShow = _ := State.beginShow_of_start_ok hheld hcur hready hstart
  have hslots : ∀ j, s.popTurn.beginShow.tbRead j = s.popTurn.stage.tbRead j :=
    State.tbRead_beginShow_of_ready (s := s.popTurn) hcur hready
  have hstep : step s = .next s.popTurn.beginShow :=
    (step_of_show_word hturns hheld hfree).trans (execShow_of_not_held (s := s.popTurn) hinit hflt hn hheld)
  obtain ⟨hs, hprogress⟩ := State.beginShow_streaming (s := s.popTurn) hinit hflt hn hpend hold hfree hbegin hslots
  generalize s.popTurn.beginShow = u at *
  have hframe : u.frame = s.frame := by rw [hbegin]; rfl
  obtain ⟨v, hrun, hv, hvturns, hvtx, hvslots⟩ := hprogress.run_show (rest := rest) hs (halves := halves)
    (by rw [hbegin]; exact hhalves) (by rw [hbegin]; simp [hturns])
  have htx : v.tx = s.tx ++ s.frame := by rw [hvtx, hframe, hbegin]; rfl
  obtain ⟨hvpend, hpb, hvn, hbr, hgam, hper, hhi, hlo, hhid, hvinit, hvflt, hresp⟩ : v.pend = s.pend ∧ v.pb = s.pb ∧
      v.n = s.n ∧ v.br = s.br ∧ v.gam = s.gam ∧ v.per = s.per ∧ v.hi = s.hi ∧ v.lo = s.lo ∧ v.hid = s.hid ∧
      v.inited = s.inited ∧ v.flt = s.flt ∧ v.resp = s.resp ++ [.ok] := by
    rw [hv, hbegin]
    exact ⟨rfl, rfl, rfl, rfl, rfl, rfl, rfl, rfl, rfl, rfl, rfl, rfl⟩
  refine ⟨v.shutdown, ?_, htx, rfl, rfl, rfl, hvpend.trans hpend, hvturns, hpb, hvn, hbr, hgam, hper, hhi, hlo, hhid,
    hvinit.trans hinit, hvflt.trans hflt, hresp, hvslots⟩
  rw [Nat.add_comm, run_step hstep]
  exact hrun

end Sys2Proof.Machine
